-- ==== Sys2Proof/Word.lean ====
section
/-! DEFINITION. The words of the model: bytes, the 32-bit word of the host bus, and the numbers of slots,
stations and pool blocks (00_scope, Conventions: slots 0 to 15, stations 1 to 8, blocks 0 to 127). -/

namespace Sys2Proof

/-- One byte of the line or of the pool. -/
abbrev Byte := BitVec 8

/-- One word of the host window (R186). -/
abbrev Word := BitVec 32

/-- A slot number, 0 to 15 (R1). -/
abbrev SlotId := Fin 16

/-- A station record's position: station address `a` (1 to 8) has position `a - 1`. -/
abbrev StationId := Fin 8

/-- A pool block number, 0 to 127 (R25). -/
abbrev BlockId := Fin 128

end Sys2Proof
end

