-- ==== Sys2Proof/Syntax.lean ====
section
/-! DEFINITION. The commands of the block: one constructor for each row of spec/opcode_table.json.
A row is a host command, another host access that changes state, or an event on the line, a pin or a timer. -/

namespace Sys2Proof

/-- The two registers that DESCRIPTOR_WRITE covers (R10, R194); DESC2 is LENGTH_WRITE's. -/
inductive DescReg where
  | desc0
  | desc1
deriving DecidableEq, Repr

/-- The commands the LX16 takes, one constructor a row of the table. An `operand` is bits 8 to 15 of the CMD
write (R189), a `data` is the whole word written, a `station` is a station address and a `slot` a slot number. -/
inductive Instr where
  /-- POWER_ON_RESET: RESET_N goes low and high again (R186). -/
  | powerOnReset
  /-- CLAIM (R8). -/
  | claim
  /-- SELECT (R6). -/
  | select (operand : Byte)
  /-- POST (R13 to R16). -/
  | post (operand : Byte)
  /-- DROP (R12). -/
  | drop (operand : Byte)
  /-- CANCEL (R143). -/
  | cancel (operand : Byte)
  /-- POP (R161). -/
  | pop
  /-- RELEASE (R23). -/
  | release (operand : Byte)
  /-- ENABLE_STATION (R66). -/
  | enableStation (operand : Byte)
  /-- DISABLE_STATION (R67, R70). -/
  | disableStation (operand : Byte)
  /-- LINK_START (R174). -/
  | linkStart
  /-- LINK_STOP (R176). -/
  | linkStop
  /-- LINK_RESUME (R183). -/
  | linkResume
  /-- SNAPSHOT (R193). -/
  | snapshot
  /-- SNAPSHOT_CLEAR (R193). -/
  | snapshotClear
  /-- SOFT_RESET (R196). -/
  | softReset
  /-- UNKNOWN_COMMAND: a CMD write whose code is not in the command table (R189). -/
  | unknownCommand (code : Byte)
  /-- DESCRIPTOR_WRITE: a write of DESC0 or DESC1 (R10, R195). -/
  | descriptorWrite (reg : DescReg) (data : Word)
  /-- LENGTH_WRITE: a write of DESC2 (R11). -/
  | lengthWrite (data : Word)
  /-- DATA_WINDOW_WRITE (R30 to R32). -/
  | dataWindowWrite (data : Word)
  /-- DATA_WINDOW_READ (R37, R38). -/
  | dataWindowRead
  /-- CAUSE_WRITE (R192). -/
  | causeWrite (data : Word)
  /-- MASK_WRITE (R170). -/
  | maskWrite (data : Word)
  /-- CFG0_WRITE (R191). -/
  | cfg0Write (data : Word)
  /-- CFG1_WRITE (R191, R166). -/
  | cfg1Write (data : Word)
  /-- IGNORED_WRITE: a write to word 25 or to a read-only word (R188). -/
  | ignoredWrite (word : BitVec 5) (data : Word)
  /-- LINE_FAULT_ASSERTED: the input has stayed asserted for 2 µs (R182). -/
  | lineFaultAsserted
  /-- LINE_FAULT_NEGATED: the input has stayed negated for 2 µs (R182). -/
  | lineFaultNegated
  /-- INTER_FRAME_GAP_END (R47). -/
  | interFrameGapEnd
  /-- FRAME_SENT (R52). -/
  | frameSent
  /-- REPLY_TIMEOUT (R53). -/
  | replyTimeout
  /-- GARBLED_REPLY (R56). -/
  | garbledReply
  /-- LATE_REPLY (R59). -/
  | lateReply
  /-- PRESENT, with its argument, the park depth (R68). -/
  | present (depth : Byte)
  /-- ACCEPT (R104). -/
  | accept
  /-- REFUSE, with its argument, the reason (R105). -/
  | refuse (reason : Byte)
  /-- TAKEN (R108). -/
  | taken
  /-- GIVE, with its payload (R111). -/
  | give (payload : List Byte)
  /-- RESULT, with its argument, the station status (R114). -/
  | result (status : Byte)
  /-- WAIT (R140). -/
  | wait
  /-- PARK (R116). -/
  | park
  /-- NOTHING (R128). -/
  | nothing
  /-- READY, with its tag (R128). -/
  | ready (tag : SlotId)
  /-- DONE (R151). -/
  | done
  /-- HOLDOFF_EXPIRY (R165). -/
  | holdoffExpiry
  /-- BACKOFF_EXPIRY of one station (R75). -/
  | backoffExpiry (station : BitVec 4)
  /-- POLL_TIMER_EXPIRY of one station (R76). -/
  | pollTimerExpiry (station : BitVec 4)
  /-- LIFETIME_EXPIRY of one slot (R142). -/
  | lifetimeExpiry (slot : SlotId)
  /-- VIOLATION_REPLY (R57). -/
  | violationReply
  /-- REPLY_BEGINS (R53). -/
  | replyBegins
deriving DecidableEq, Repr

end Sys2Proof
end

