-- ==== Sys2Proof/WellFormed.lean ====
section
/-! DEFINITION. Which command terms are commands of the spec: the operands that a row's own words bound. -/

namespace Sys2Proof

/-- The command codes of the table of 11.3 (R189). -/
def commandCodes : List Byte :=
  [0x01, 0x02, 0x03, 0x04, 0x05, 0x06, 0x07, 0x10, 0x11, 0x20, 0x21, 0x22, 0x30, 0x31, 0x3F]

/-- The words of the window that take a write (R187): CMD, DESC0 to DESC2, DWIN, CAUSE, MASK, CFG0, CFG1. -/
def writableWords : List (BitVec 5) := [0, 2, 3, 4, 7, 12, 13, 15, 16]

/-- A station address of the spec, 1 to 8. -/
def isStationAddress (a : BitVec 4) : Bool := decide (1 ≤ a.toNat) && decide (a.toNat ≤ 8)

/-- The rows whose operands the spec bounds: a code outside the command table (R189), a word that takes no
write (R188), and a station that the part has a record of (R62). Every other operand is any value of its field:
where the spec bounds it (a slot or station operand, a payload, a reason), it states what a value outside does. -/
def Instr.wellFormed : Instr → Bool
  | .unknownCommand code => !commandCodes.contains code
  | .ignoredWrite word _ => !writableWords.contains word
  | .backoffExpiry station => isStationAddress station
  | .pollTimerExpiry station => isStationAddress station
  | _ => true

end Sys2Proof
end

