-- ==== Sys2Proof/Decode.lean ====
section
/-! DEFINITION. What a word spells. spec/opcode_table.json gives no row any bits, so `decodeTableWord` answers none. The bits the
spec does give a command are those of the host window: which word is written and what (R187 to R189); `decodeHostWrite` reads
a host write as a command and `encodeHostWrite` gives the write that spells a command. -/

namespace Sys2Proof

/-- No row of spec/opcode_table.json carries bits: no word spells a row by the table. -/
def decodeTableWord (_nbits _w : Nat) : Option Instr := none

/-- The command that a CMD write gives: code in bits 0 to 7, operand in bits 8 to 15, the others ignored (R189). -/
def decodeCommand (w : BitVec 32) : Instr :=
  let code : Byte := w.extractLsb' 0 8
  let operand : Byte := w.extractLsb' 8 8
  match code.toNat with
  | 0x01 => .claim
  | 0x02 => .select operand
  | 0x03 => .post operand
  | 0x04 => .drop operand
  | 0x05 => .cancel operand
  | 0x06 => .pop
  | 0x07 => .release operand
  | 0x10 => .enableStation operand
  | 0x11 => .disableStation operand
  | 0x20 => .linkStart
  | 0x21 => .linkStop
  | 0x22 => .linkResume
  | 0x30 => .snapshot
  | 0x31 => .snapshotClear
  | 0x3F => .softReset
  | _ => .unknownCommand code

/-- The command that a write of one word of the host window is (R187, R188). -/
def decodeHostWrite (word : BitVec 5) (data : Word) : Instr :=
  match word.toNat with
  | 0 => decodeCommand data
  | 2 => .descriptorWrite .desc0 data
  | 3 => .descriptorWrite .desc1 data
  | 4 => .lengthWrite data
  | 7 => .dataWindowWrite data
  | 12 => .causeWrite data
  | 13 => .maskWrite data
  | 15 => .cfg0Write data
  | 16 => .cfg1Write data
  | _ => .ignoredWrite word data

/-- The word written to CMD for a code and an operand (R189). -/
def commandWord (code operand : Byte) : Word := code.setWidth 32 ||| (operand.setWidth 32 <<< 8)

/-- The write of the host window that spells a command, for the commands that a host write gives; a command without an operand
is written with operand 0. -/
def encodeHostWrite : Instr → Option (BitVec 5 × Word)
  | .claim => some (0, commandWord 0x01 0)
  | .select operand => some (0, commandWord 0x02 operand)
  | .post operand => some (0, commandWord 0x03 operand)
  | .drop operand => some (0, commandWord 0x04 operand)
  | .cancel operand => some (0, commandWord 0x05 operand)
  | .pop => some (0, commandWord 0x06 0)
  | .release operand => some (0, commandWord 0x07 operand)
  | .enableStation operand => some (0, commandWord 0x10 operand)
  | .disableStation operand => some (0, commandWord 0x11 operand)
  | .linkStart => some (0, commandWord 0x20 0)
  | .linkStop => some (0, commandWord 0x21 0)
  | .linkResume => some (0, commandWord 0x22 0)
  | .snapshot => some (0, commandWord 0x30 0)
  | .snapshotClear => some (0, commandWord 0x31 0)
  | .softReset => some (0, commandWord 0x3F 0)
  | .unknownCommand code => some (0, commandWord code 0)
  | .descriptorWrite .desc0 data => some (2, data)
  | .descriptorWrite .desc1 data => some (3, data)
  | .lengthWrite data => some (4, data)
  | .dataWindowWrite data => some (7, data)
  | .causeWrite data => some (12, data)
  | .maskWrite data => some (13, data)
  | .cfg0Write data => some (15, data)
  | .cfg1Write data => some (16, data)
  | .ignoredWrite word data => some (word, data)
  | _ => none

end Sys2Proof
end

