-- ==== Sys2Proof/Config.lean ====
section
/-! DEFINITION. What the LX16 fixes: sizes and times that the spec states as plain numbers.
The spec leaves no value free (no result of a command is called undefined or unstated), so no opaque
constant stands here: every open point is a named choice in notes/assumptions. -/

namespace Sys2Proof.Config

/-- Bytes in one pool block (R25). -/
def blockBytes : Nat := 32

/-- Bytes in the whole pool, 128 blocks of 32 (R25). -/
def poolBytes : Nat := 4096

/-- Bytes in a full segment (R99). -/
def segmentBytes : Nat := 64

/-- The largest exchange, in bytes (R14, R26). -/
def maxLength : Nat := 512

/-- Probe attempts of a station made PROBING (R66, R78). -/
def probeAttempts : Nat := 3

/-- Withdraw attempts of a station made WITHDRAWING (R70). -/
def withdrawAttempts : Nat := 2

/-- Abort attempts of a slot entering ABORTING (R149). -/
def abortAttempts : Nat := 2

/-- The count at which busy replies seen is held (R140). -/
def busySeenCap : Nat := 255

/-- Clock periods (32 MHz) in one step of the reply timeout, 8 µs (R53). -/
def replyStepClocks : Nat := 256

/-- Bits of one byte on the line: start, eight data, stop (R43). -/
def bitsPerByte : Nat := 10

/-- The idle that ends a received frame, in byte-times (R43, R46). -/
def endIdleByteTimes : Nat := 3

/-- The inter-frame gap in byte-times (R47). -/
def gapByteTimes : Nat := 4

end Sys2Proof.Config
end

