-- ==== Sys2Proof/Machine/State.lean ====
section
/-! DEFINITION. The state of the LX16 as plain data: every register, list, buffer, counter, timer, flag and pin that
the spec names, the queue of waiting commands, the state after power-on reset, and the reasons a step can stop. -/

namespace Sys2Proof.Machine

/-! ## Names of the spec -/

/-- Exchange kind; `noKind` is the held value 0, no kind (1.2.1, R194). -/
inductive Kind where
  | noKind
  | store
  | fetch
  | control
deriving DecidableEq, Repr

/-- Class, the dispatch list a slot joins at posting (1.2.1). -/
inductive Cls where
  | normal
  | urgent
deriving DecidableEq, Repr

/-- Slot states (1.3). -/
inductive SlotState where
  | free
  | claimed
  | queued
  | opened
  | parked
  | aborting
  | complete
  | settled
deriving DecidableEq, Repr

/-- The phase of an accepted exchange (1.2.2). -/
inductive Phase where
  | data
  | finishing
deriving DecidableEq, Repr

/-- The outcomes of 1.7.2. -/
inductive Ending where
  | ok
  | stationError
  | refused
  | linkError
  | busyLimit
  | timedOut
  | cancelled
  | protocol
  | stationFault
  | noStation
  | withdrawn
  | linkLost
  | stopped
deriving DecidableEq, Repr

/-- A stop request: CANCELLED or TIMED_OUT (1.2.2, 8.4). -/
inductive StopKind where
  | cancelled
  | timedOut
deriving DecidableEq, Repr

/-- Station states (4.2). -/
inductive StationState where
  | disabled
  | probing
  | online
  | absent
  | faulty
  | withdrawing
deriving DecidableEq, Repr

/-- The poll timer's four conditions (R127); `running n` was started with `n` steps of 100 µs. -/
inductive PollTimer where
  | stopped
  | running (steps : Nat)
  | expired
  | held
deriving DecidableEq, Repr

/-- Link states (10.1). -/
inductive LinkState where
  | off
  | starting
  | running
  | stopping
  | suspended
deriving DecidableEq, Repr

/-- The four bit rates (R43). -/
inductive BitRate where
  | kbit500
  | mbit1
  | mbit2
  | mbit4
deriving DecidableEq, Repr

/-- Controller frame kinds (R51). -/
inductive FrameKind where
  | sync
  | openReq
  | send
  | pull
  | finish
  | poll
  | abort
deriving DecidableEq, Repr

/-- How far the frame in flight has gone (3.4). -/
inductive FramePhase where
  | sending
  | awaiting
  | receiving
deriving DecidableEq, Repr

/-- The receiver (R42, R46): waiting for a start bit with no received frame open; with a received frame open whose first byte is
still arriving, its start bit accepted and its stop bit to come; or with a received frame open and a byte of it received. -/
inductive Receiver where
  | waiting
  | firstByte
  | frameOpen
deriving DecidableEq, Repr

/-- Command status codes (R190). -/
inductive Status where
  | done
  | noSlot
  | noSpace
  | badDescriptor
  | fillError
  | wrongState
  | badOperand
  | stationDisabled
  | linkState
  | empty
  | unknownCommand
deriving DecidableEq, Repr

/-! ## Records -/

/-- The host-written part of a slot record, each field with exactly the range it holds (1.2.1, R194). -/
structure Descriptor where
  station : BitVec 4
  kind : Kind
  function : Byte
  selector : BitVec 16
  length : BitVec 10
  cls : Cls
  retryAllowance : BitVec 3
  busyAllowance : BitVec 4
  lifetime : BitVec 12
deriving DecidableEq, Repr

/-- A slot record: descriptor, progress, buffer and result (1.2), and the abort attempts of Chapter 8.
The lifetime timer holds the interval in ms it was started with while it runs (assumption log 3). -/
structure Slot where
  state : SlotState
  desc : Descriptor
  phase : Phase
  nextIndex : Nat
  bytesMoved : Nat
  retriesLeft : Nat
  retriesUsed : Nat
  busyLeft : Nat
  busySeen : Nat
  possiblyOpened : Bool
  inFlight : Bool
  stopRequest : Option StopKind
  pendingOutcome : Option Ending
  abortAttempts : Nat
  ready : Bool
  lifetimeTimer : Option Nat
  chain : List BlockId
  fillCursor : Nat
  fillError : Bool
  readCursor : Nat
  outcome : Option Ending
  short : Bool
  lateStop : Bool
  abortUnconfirmed : Bool
  stationStatus : Option Byte
deriving DecidableEq, Repr

/-- A station record (4.1). The backoff timer holds the interval it was started with while it runs. -/
structure Station where
  state : StationState
  parkDepth : Nat
  engaged : Option SlotId
  parked : List SlotId
  failures : Nat
  backoff : Option Nat
  pollTimer : PollTimer
  probeAttempts : Nat
  withdrawAttempts : Nat
  changed : Bool
deriving DecidableEq, Repr

/-- The frame in flight (3.4), with the bytes it was built as (R51, R95 step 5). The reply timer holds the interval in
steps of 8 µs it was started with while the frame is AWAITING. -/
structure Frame where
  kind : FrameKind
  station : StationId
  slot : Option SlotId
  index : Nat
  phase : FramePhase
  replyTimer : Option Nat
  bytes : List Byte
deriving DecidableEq, Repr

/-- A completion record (R159). -/
structure Record where
  seq : Byte
  slot : SlotId
  station : BitVec 4
  kind : Kind
  outcome : Ending
  bytesMoved : Nat
  short : Bool
  stationStatus : Option Byte
  retriesUsed : Nat
  busyReplies : Nat
  lateStop : Bool
  abortUnconfirmed : Bool
deriving DecidableEq, Repr

/-- The three mask bits, set meaning unmasked (R170, R194). -/
structure CauseMask where
  completion : Bool
  station : Bool
  link : Bool
deriving DecidableEq, Repr

/-- The eight configuration values of CFG0 and CFG1 as held (R191). -/
structure HostConfig where
  bitRate : BitRate
  replyTimeout : Nat
  linkLossThreshold : Nat
  faultThreshold : Nat
  backoffInterval : Nat
  pollInterval : Nat
  completionThreshold : Nat
  holdoff : Nat
deriving DecidableEq, Repr

/-- The six statistics counters (R61, R120), and the form of their snapshot (R193). -/
structure Stats where
  framesSent : Word
  validReplies : Word
  failedReplies : Word
  lateReplies : Word
  waitReplies : Word
  payloadBytes : Word
deriving DecidableEq, Repr

/-- The bytes of the buffer pool by address, block number times 32 plus offset, strictly rising and without the zeros,
which is what an unlisted address reads as (R25: every byte 0 after a reset). -/
abbrev Memory := List Host.Cell

/-! ## Values after reset -/

/-- The descriptor of a FREE slot: every field zero, class NORMAL (R1, R2). -/
def Descriptor.zero : Descriptor :=
  { station := 0, kind := .noKind, function := 0, selector := 0, length := 0, cls := .normal
    retryAllowance := 0, busyAllowance := 0, lifetime := 0 }

/-- A FREE slot: every field zero or absent (R1). -/
def Slot.empty : Slot :=
  { state := .free, desc := Descriptor.zero, phase := .data, nextIndex := 0, bytesMoved := 0
    retriesLeft := 0, retriesUsed := 0, busyLeft := 0, busySeen := 0, possiblyOpened := false
    inFlight := false, stopRequest := none, pendingOutcome := none, abortAttempts := 0
    ready := false, lifetimeTimer := none, chain := [], fillCursor := 0, fillError := false
    readCursor := 0, outcome := none, short := false, lateStop := false
    abortUnconfirmed := false, stationStatus := none }

/-- A station record after either reset (R62). -/
def Station.initial : Station :=
  { state := .disabled, parkDepth := 0, engaged := none, parked := [], failures := 0
    backoff := none, pollTimer := .stopped, probeAttempts := 0, withdrawAttempts := 0
    changed := false }

/-- The configuration defaults (R191). -/
def HostConfig.default : HostConfig :=
  { bitRate := .mbit1, replyTimeout := 25, linkLossThreshold := 8, faultThreshold := 4
    backoffInterval := 10, pollInterval := 5, completionThreshold := 1, holdoff := 0 }

/-- All six counters 0 (R61). -/
def Stats.zero : Stats :=
  { framesSent := 0, validReplies := 0, failedReplies := 0, lateReplies := 0, waitReplies := 0
    payloadBytes := 0 }

/-- All three causes masked (R170). -/
def CauseMask.allMasked : CauseMask := { completion := false, station := false, link := false }

/-- The free list after either reset: 0 to 127 in ascending order (R25). -/
def initialFreeList : List BlockId := List.finRange 128

/-! ## The state -/

/-- The state of the part, and the commands that wait for it. -/
structure State where
  /-- the slot table (R1) -/
  slots : Vector Slot 16
  /-- the URGENT dispatch list (1.7.1) -/
  urgent : List SlotId
  /-- the NORMAL dispatch list (1.7.1) -/
  normal : List SlotId
  /-- the pool's free list (R25); the free count is its length (R26) -/
  freeList : List BlockId
  /-- the bytes of the pool's blocks (R25) -/
  mem : Memory
  /-- the station table (R62) -/
  stations : Vector Station 8
  /-- the link state (R173) -/
  link : LinkState
  /-- the consecutive silent count (R180) -/
  silentCount : Nat
  /-- LINE_FAULT as the link engine takes it (R182) -/
  lineFault : Bool
  /-- the bit rate taken at the last entry to STARTING (R44) -/
  takenRate : BitRate
  /-- the frame in flight (R52) -/
  frame : Option Frame
  /-- the inter-frame gap since the last bit has passed (R47; assumption log 7) -/
  gapPassed : Bool
  /-- the receiver (R42, R46; assumption log 7) -/
  receiver : Receiver
  /-- the completion queue, oldest record at the head (R156) -/
  queue : List Record
  /-- the sequence counter (R158) -/
  seqCounter : Byte
  /-- the unannounced count (R163) -/
  unannounced : Nat
  /-- the holdoff timer: the interval in steps of 100 µs it was started with while it runs (R165) -/
  holdoffTimer : Option Nat
  /-- the COMPLETION cause (R167) -/
  completionCause : Bool
  /-- the LINK cause (R169); the STATION cause follows the change flags (R168) -/
  linkCause : Bool
  /-- the cause mask (R170) -/
  mask : CauseMask
  /-- CMDST's status code (R190) -/
  status : Status
  /-- CMDST's optional slot number (R190) -/
  statusSlot : Option SlotId
  /-- the selected slot (R6, R190) -/
  selected : SlotId
  /-- the configuration registers (R191) -/
  cfg : HostConfig
  /-- the statistics counters (R61, R120) -/
  stats : Stats
  /-- the snapshot registers SNAP0 to SNAP5 (R193) -/
  snap : Stats
  /-- the word the last DATA_WINDOW_READ put on D0 to D31 (R37, R38) -/
  readData : Word
  /-- the model's own: the commands that wait, first in, first out -/
  pending : List Instr
deriving DecidableEq, Repr

/-- The state right after a power-on reset (R186 and the reset rules of each chapter). -/
def State.reset : State :=
  { slots := Vector.replicate 16 Slot.empty
    urgent := []
    normal := []
    freeList := initialFreeList
    mem := []
    stations := Vector.replicate 8 Station.initial
    link := .off
    silentCount := 0
    lineFault := false
    takenRate := .mbit1
    frame := none
    gapPassed := false
    receiver := .waiting
    queue := []
    seqCounter := 0
    unannounced := 0
    holdoffTimer := none
    completionCause := false
    linkCause := false
    mask := CauseMask.allMasked
    status := .done
    statusSlot := none
    selected := 0
    cfg := HostConfig.default
    stats := Stats.zero
    snap := Stats.zero
    readData := 0
    pending := [] }

/-! ## Why a step can stop -/

/-- Why the machine stops with a fault. -/
inductive Fault where
  /-- A timer event names a station address that is not 1 to 8. Raised by BACKOFF_EXPIRY and POLL_TIMER_EXPIRY alone: the
  station table holds no such record (R62), so the part has no such timer. Safe: the hardware has no such event. -/
  | noSuchStation
deriving DecidableEq, Repr

/-- Why the machine refuses a command. -/
inductive Refusal where
  /-- An arm of `exec` without a meaning. Raised by no arm of this model. Safe. -/
  | notModelled (mnemonic : String)
  /-- A term that is no command of the spec: UNKNOWN_COMMAND with a code that is in the command table, IGNORED_WRITE of a
  word that takes writes. Raised by those two alone. Safe: the hardware has no such command. -/
  | notACommand
deriving DecidableEq, Repr

end Sys2Proof.Machine
end

