-- ==== Sys2Proof/Machine/Memory.lean ====
section
/-! DEFINITION. The bytes of the pool: reading, writing and clearing, over the canonical list of cells. -/

namespace Sys2Proof.Machine

/-- What an unlisted address reads as: 0, the value of every byte of every block after either reset (R25). -/
def Memory.unlisted : Byte := 0

/-- Canonical form: addresses strictly rising, all inside the 4096 bytes of the pool, and no listed byte equal to what
an unlisted address reads as. -/
abbrev Memory.wf (m : Memory) : Prop :=
  m.Pairwise (fun c d => c.1 < d.1) ∧ ∀ c ∈ m, c.1 < Config.poolBytes ∧ c.2 ≠ Memory.unlisted

/-- The byte at an address of the pool. -/
def Memory.read : Memory → Nat → Byte
  | [], _ => Memory.unlisted
  | c :: m, a => if c.1 = a then c.2 else Memory.read m a

/-- Store one byte, keeping the canonical form: a byte equal to the unlisted value has no cell. -/
def Memory.write : Memory → Nat → Byte → Memory
  | [], a, v => if v = Memory.unlisted then [] else [(a, v)]
  | c :: m, a, v =>
    if a < c.1 then (if v = Memory.unlisted then c :: m else (a, v) :: c :: m)
    else if c.1 = a then (if v = Memory.unlisted then m else (a, v) :: m)
    else c :: Memory.write m a v

/-- The address of byte `off` of a block (the offset is taken within the block's 32 bytes). -/
def blockAddress (b : BlockId) (off : Nat) : Nat :=
  b.val * Config.blockBytes + off % Config.blockBytes

/-- Set all 32 bytes of a block to 0 (R27). -/
def Memory.clearBlock (m : Memory) (b : BlockId) : Memory :=
  m.filter fun c => decide (c.1 / Config.blockBytes ≠ b.val)

/-- The pool address that holds byte offset `off` of the data on a chain: chain position `off / 32`, offset within the
block the remainder (R29). None where the chain has no such position. -/
def chainAddress (chain : List BlockId) (off : Nat) : Option Nat :=
  (chain[off / Config.blockBytes]?).map fun b => blockAddress b off

/-- The byte at an offset of the data on a chain (R29). -/
def chainByte (m : Memory) (chain : List BlockId) (off : Nat) : Byte :=
  match chainAddress chain off with
  | some a => m.read a
  | none => Memory.unlisted

/-- Store one byte at an offset of the data on a chain (R29). -/
def chainPut (m : Memory) (chain : List BlockId) (off : Nat) (v : Byte) : Memory :=
  match chainAddress chain off with
  | some a => m.write a v
  | none => m

/-- Store bytes at consecutive offsets of the data on a chain, the first at `off` (R31, R36). -/
def chainPutAll (m : Memory) (chain : List BlockId) (off : Nat) : List Byte → Memory
  | [] => m
  | v :: vs => chainPutAll (chainPut m chain off v) chain (off + 1) vs

/-- The `n` bytes at consecutive offsets from `off` of the data on a chain (R35). -/
def chainBytes (m : Memory) (chain : List BlockId) (off : Nat) : Nat → List Byte
  | 0 => []
  | n + 1 => chainByte m chain off :: chainBytes m chain (off + 1) n

/-- A number of bytes divided by a unit and rounded up (00_scope, Sizes and lengths). -/
def roundUpDiv (n unit : Nat) : Nat := (n + (unit - 1)) / unit

/-- The blocks that hold `n` bytes (R29). -/
def blocksFor (n : Nat) : Nat := roundUpDiv n Config.blockBytes

end Sys2Proof.Machine
end

