-- ==== Sys2Proof/Machine/Operands.lean ====
section
/-! DEFINITION. Operands and bit fields: slot and station operands of a command, the fields of a written word, the codes
of R194, and the values at which a configuration field is held. -/

namespace Sys2Proof.Machine

/-- The unsigned value of bits `lo` to `lo + width - 1` of a word. -/
def bitsOf (w : Word) (lo width : Nat) : Nat := (w.extractLsb' lo width).toNat

/-- A slot operand: 0 to 15, and none for 16 and above (R5, R189). -/
def slotOperand (operand : Byte) : Option SlotId :=
  if h : operand.toNat < 16 then some ⟨operand.toNat, h⟩ else none

/-- A station operand: 1 to 8, and none for 0 and for 9 and above (4.3, R189). -/
def stationOperand (operand : Byte) : Option StationId :=
  if h : 1 ≤ operand.toNat ∧ operand.toNat ≤ 8 then some ⟨operand.toNat - 1, by omega⟩ else none

/-- The record that a 4-bit station address names: 1 to 8 (00_scope, Numbering). -/
def stationOfAddress (a : BitVec 4) : Option StationId :=
  if h : 1 ≤ a.toNat ∧ a.toNat ≤ 8 then some ⟨a.toNat - 1, by omega⟩ else none

/-- The address of a station record, 1 to 8. -/
def addressOf (st : StationId) : BitVec 4 := BitVec.ofNat 4 (st.val + 1)

/-- Hold a value within a range, at its nearest end when it lies outside (R191). -/
def clampTo (lo hi n : Nat) : Nat := max lo (min hi n)

/-- Kind codes (R194). -/
def kindOfCode (n : Nat) : Kind :=
  match n with
  | 1 => .store
  | 2 => .fetch
  | 3 => .control
  | _ => .noKind

/-- Bit rate codes (R191). -/
def bitRateOfCode (n : Nat) : BitRate :=
  match n with
  | 0 => .kbit500
  | 1 => .mbit1
  | 2 => .mbit2
  | _ => .mbit4

/-- A write of DESC0: station, kind, class, allowances and function together (R194, R195). -/
def Descriptor.writeDesc0 (d : Descriptor) (w : Word) : Descriptor :=
  { d with
    station := w.extractLsb' 0 4
    kind := kindOfCode (bitsOf w 4 2)
    cls := if w.getLsbD 6 then .urgent else .normal
    retryAllowance := w.extractLsb' 8 3
    busyAllowance := w.extractLsb' 12 4
    function := w.extractLsb' 16 8 }

/-- A write of DESC1: selector and lifetime together (R194, R195). -/
def Descriptor.writeDesc1 (d : Descriptor) (w : Word) : Descriptor :=
  { d with selector := w.extractLsb' 0 16, lifetime := w.extractLsb' 16 12 }

/-- A write of a descriptor register (R10). -/
def Descriptor.writeReg (d : Descriptor) (reg : DescReg) (w : Word) : Descriptor :=
  match reg with
  | .desc0 => d.writeDesc0 w
  | .desc1 => d.writeDesc1 w

/-- A write of DESC2: the length (R11, R194). -/
def Descriptor.writeLength (d : Descriptor) (w : Word) : Descriptor :=
  { d with length := w.extractLsb' 0 10 }

/-- The descriptor that CLAIM sets: the last column of 1.2.1 (R8). -/
def Descriptor.claimed : Descriptor :=
  { station := 1, kind := .store, function := 0, selector := 0, length := 0, cls := .normal
    retryAllowance := 3, busyAllowance := 0, lifetime := 0 }

/-- The station record a descriptor names, where it names one. -/
def Descriptor.stationId (d : Descriptor) : Option StationId := stationOfAddress d.station

/-- A write of CFG0 (R191): bit rate, reply timeout, link-loss threshold, fault threshold, each held in its range. -/
def HostConfig.writeCfg0 (c : HostConfig) (w : Word) : HostConfig :=
  { c with
    bitRate := bitRateOfCode (bitsOf w 0 2)
    replyTimeout := clampTo 1 255 (bitsOf w 8 8)
    linkLossThreshold := clampTo 2 32 (bitsOf w 16 6)
    faultThreshold := clampTo 1 15 (bitsOf w 24 4) }

/-- A write of CFG1 (R191): backoff, poll interval, completion threshold, holdoff, each held in its range. -/
def HostConfig.writeCfg1 (c : HostConfig) (w : Word) : HostConfig :=
  { c with
    backoffInterval := clampTo 1 255 (bitsOf w 0 8)
    pollInterval := clampTo 1 255 (bitsOf w 8 8)
    completionThreshold := clampTo 1 16 (bitsOf w 16 5)
    holdoff := bitsOf w 24 8 }

/-- The mask bits of a MASK write (R192, R194). -/
def CauseMask.ofWord (w : Word) : CauseMask :=
  { completion := w.getLsbD 0, station := w.getLsbD 1, link := w.getLsbD 2 }

end Sys2Proof.Machine
end

