-- ==== Sys2Proof/Machine/Ops.lean ====
section
/-! DEFINITION. The shared operations over the slot table, the station table, the dispatch lists and the pool, which
every meaning is made of. -/

namespace Sys2Proof.Machine

/-! ## Slot and station records -/

/-- A slot record. -/
def State.slot (s : State) (i : SlotId) : Slot := s.slots[i.val]

/-- Replace a slot record. -/
def State.setSlot (s : State) (i : SlotId) (x : Slot) : State :=
  { s with slots := s.slots.set i.val x }

/-- Change a slot record. -/
def State.modSlot (s : State) (i : SlotId) (f : Slot → Slot) : State := s.setSlot i (f (s.slot i))

/-- A station record. -/
def State.station (s : State) (st : StationId) : Station := s.stations[st.val]

/-- Replace a station record. -/
def State.setStation (s : State) (st : StationId) (r : Station) : State :=
  { s with stations := s.stations.set st.val r }

/-- Change a station record. -/
def State.modStation (s : State) (st : StationId) (f : Station → Station) : State :=
  s.setStation st (f (s.station st))

/-- Change every station record by one function. -/
def State.mapStations (s : State) (f : Station → Station) : State :=
  { s with stations := s.stations.map f }

/-- The selected slot's record (R6). -/
def State.selectedSlot (s : State) : Slot := s.slot s.selected

/-- A posted and unfinished slot: QUEUED, OPEN, PARKED or ABORTING (R17). -/
def SlotState.isActive : SlotState → Bool
  | .queued => true
  | .opened => true
  | .parked => true
  | .aborting => true
  | .free => false
  | .claimed => false
  | .complete => false
  | .settled => false

/-- The slot's descriptor names this station. -/
def Slot.isAt (x : Slot) (st : StationId) : Bool := decide (x.desc.stationId = some st)

/-- The state of the station that a slot's descriptor names, where it names one. -/
def State.stationStateOf (s : State) (x : Slot) : Option StationState :=
  x.desc.stationId.map fun st => (s.station st).state

/-! ## Command status -/

/-- The command status after a command: its code, and no slot number (R190). -/
def State.answer (s : State) (code : Status) : State := { s with status := code, statusSlot := none }

/-- The command status after a CLAIM or POP that is taken: DONE with the slot's number (R190). -/
def State.answerSlot (s : State) (i : SlotId) : State :=
  { s with status := .done, statusSlot := some i }

/-- The command status after a refused or dropped register write: the code, the slot number as it was (R190). -/
def State.flagStatus (s : State) (code : Status) : State := { s with status := code }

/-! ## Dispatch lists -/

/-- The slots of both dispatch lists in walk order: URGENT from head to tail, then NORMAL (1.7.1). -/
def State.walkOrder (s : State) : List SlotId := s.urgent ++ s.normal

/-- A slot joins the tail of the list of its class (R16, R17). -/
def State.joinList (s : State) (i : SlotId) (c : Cls) : State :=
  match c with
  | .urgent => { s with urgent := s.urgent ++ [i] }
  | .normal => { s with normal := s.normal ++ [i] }

/-- A slot leaves its dispatch list; the others keep their order (R18, R19 step 1). -/
def State.leaveList (s : State) (i : SlotId) : State :=
  { s with urgent := s.urgent.erase i, normal := s.normal.erase i }

/-! ## The pool -/

/-- Take the block at the head of the free list onto the tail of a slot's chain, its 32 bytes set to 0 (R27).
With an empty free list nothing is taken. -/
def State.takeBlock (s : State) (i : SlotId) : State :=
  match s.freeList with
  | [] => s
  | b :: rest =>
    ({ s with freeList := rest, mem := s.mem.clearBlock b }).modSlot i fun x =>
      { x with chain := x.chain ++ [b] }

/-- Take `n` blocks, one at a time (R27, R34). -/
def State.takeBlocks (s : State) (i : SlotId) : Nat → State
  | 0 => s
  | n + 1 => (s.takeBlock i).takeBlocks i n

/-- Keep the first `keep` blocks of a slot's chain and return the others to the tail of the free list in chain order
(R28, R39). -/
def State.returnBlocks (s : State) (i : SlotId) (keep : Nat) : State :=
  ({ s with freeList := s.freeList ++ (s.slot i).chain.drop keep }).modSlot i fun x =>
    { x with chain := x.chain.take keep }

/-- Return every block of the slot's chain and set every field of its record to the zero or absent value of R1
(R12, R23, R40). -/
def State.freeSlot (s : State) (i : SlotId) : State := (s.returnBlocks i 0).setSlot i Slot.empty

/-! ## Station timers and the parked list -/

/-- The poll condition: an ONLINE station whose parked list holds a slot with a clear ready flag (R76). -/
def State.pollCondition (s : State) (st : StationId) : Bool :=
  decide ((s.station st).state = .online) &&
    (s.station st).parked.any fun i => !(s.slot i).ready

/-- After a departure from the parked list or the setting of a ready flag: a running or expired poll timer stops when the
poll condition no longer holds; a held one is left to the end of its POLL (R76, R127). -/
def State.settlePollTimer (s : State) (st : StationId) : State :=
  if s.pollCondition st then s
  else match (s.station st).pollTimer with
    | .running _ => s.modStation st fun r => { r with pollTimer := .stopped }
    | .expired => s.modStation st fun r => { r with pollTimer := .stopped }
    | .stopped => s
    | .held => s

/-- At the end of a POLL its held timer starts again when the poll condition holds and stops when it does not; a timer
that is no longer held is left as it is (R76, R127). -/
def State.restartPollTimer (s : State) (st : StationId) : State :=
  if (s.station st).pollTimer = .held then
    s.modStation st fun r =>
      { r with pollTimer := if s.pollCondition st then .running s.cfg.pollInterval else .stopped }
  else s

/-- A park starts a stopped poll timer; one that runs or has expired is left as it is (R76, R116). -/
def State.startPollTimer (s : State) (st : StationId) : State :=
  if (s.station st).pollTimer = .stopped then
    s.modStation st fun r => { r with pollTimer := .running s.cfg.pollInterval }
  else s

/-- A slot leaves a station's parked list, where it stands in it; the other entries keep their order (R125). -/
def State.leaveParked (s : State) (st : StationId) (i : SlotId) : State :=
  if (s.station st).parked.contains i then
    (s.modStation st fun r => { r with parked := r.parked.erase i }).settlePollTimer st
  else s

/-- A slot leaves its station's engaged field, where it holds it (R19 step 2). -/
def State.leaveEngaged (s : State) (st : StationId) (i : SlotId) : State :=
  s.modStation st fun r => { r with engaged := if r.engaged = some i then none else r.engaged }

/-- A slot leaves whatever its station's record holds of it (R19 step 2). -/
def State.leaveStation (s : State) (i : SlotId) : State :=
  match (s.slot i).desc.stationId with
  | some st => (s.leaveEngaged st i).leaveParked st i
  | none => s

end Sys2Proof.Machine
end

