-- ==== Sys2Proof/Machine/Flags.lean ====
section
/-! DEFINITION. Status and interrupt flags: the three causes, the mask and the interrupt line, the coalescing of
completion records, the change flags, and the pins that follow from the state. -/

namespace Sys2Proof.Machine

/-- The STATION cause: set while one or more change flags is set (R168). -/
def State.stationCause (s : State) : Bool := s.stations.toList.any fun r => r.changed

/-- A cause is both set and unmasked (R171). -/
def State.causeShown (s : State) : Bool :=
  (s.completionCause && s.mask.completion) || (s.stationCause && s.mask.station) ||
    (s.linkCause && s.mask.link)

/-- The level of the INT_N pin: low (false) while a cause is both set and unmasked (R171). -/
def State.intN (s : State) : Bool := !s.causeShown

/-- The level of the LINE_DE pin: asserted from the first bit of a controller frame to its last stop bit (R42). -/
def State.lineDE (s : State) : Bool :=
  match s.frame with
  | some f => decide (f.phase = .sending)
  | none => false

/-- Raising the COMPLETION cause: it is set, the unannounced count returns to 0, the holdoff timer stops (R165). -/
def State.raiseCompletion (s : State) : State :=
  { s with completionCause := true, unannounced := 0, holdoffTimer := none }

/-- The coalescing decision at the end of the step of an event that appended records (R164, R165): announce at once with
a holdoff of 0 or at the threshold, otherwise start a stopped holdoff timer. -/
def State.coalesce (s : State) : State :=
  if s.cfg.holdoff = 0 ∨ s.cfg.completionThreshold ≤ s.unannounced then s.raiseCompletion
  else match s.holdoffTimer with
    | none => { s with holdoffTimer := some s.cfg.holdoff }
    | some _ => s

/-- The end of an event's step: the coalescing decision is made once, and only when the event appended one or more
records to the queue that `before` held (R164). -/
def State.announceSince (s before : State) : State :=
  if before.queue.length < s.queue.length then s.coalesce else s

/-- A write of CFG1 is a write of the completion threshold: the cause is raised when the unannounced count is 1 or more
and at or above the new threshold (R166). -/
def State.thresholdWritten (s : State) : State :=
  if 1 ≤ s.unannounced ∧ s.cfg.completionThreshold ≤ s.unannounced then s.raiseCompletion else s

/-- The change flags after a CAUSE write: bit 1 clears all eight, bit `8 + st` clears that of one station (R192). -/
def State.clearChangeFlags (s : State) (w : Word) : State :=
  { s with stations := Vector.ofFn fun (st : Fin 8) =>
      let r := s.station st
      { r with changed := r.changed && !(w.getLsbD 1 || w.getLsbD (8 + st.val)) } }

/-- A CAUSE write clears every cause and change flag written as 1, in one step (R192). -/
def State.clearCauses (s : State) (w : Word) : State :=
  { s.clearChangeFlags w with
    completionCause := s.completionCause && !w.getLsbD 0
    linkCause := s.linkCause && !w.getLsbD 2 }

end Sys2Proof.Machine
end

