-- ==== Sys2Proof/Machine/Completion.lean ====
section
/-! DEFINITION. The completion step of R19, the walks that complete several slots in one event, and the queue's
append and pop. -/

namespace Sys2Proof.Machine

/-- What the rule that ends an exchange supplies: the outcome, the station status of a RESULT or REFUSE, and the two
flags of the stop and abort rules (R3). -/
structure Result where
  outcome : Ending
  stationStatus : Option Byte := none
  lateStop : Bool := false
  abortUnconfirmed : Bool := false
deriving DecidableEq, Repr

/-- Blocks that stay on the chain at completion: for a FETCH those that hold the bytes moved, otherwise none (R39). -/
def Slot.keptBlocks (x : Slot) : Nat :=
  match x.desc.kind with
  | .fetch => blocksFor x.bytesMoved
  | .noKind => 0
  | .store => 0
  | .control => 0

/-- The record after steps 3, 4 and 6 of the completion step (R19). -/
def Slot.close (x : Slot) (r : Result) : Slot :=
  { x with
    state := .complete
    lifetimeTimer := none
    stopRequest := none
    pendingOutcome := none
    inFlight := false
    ready := false
    outcome := some r.outcome
    stationStatus := r.stationStatus
    lateStop := r.lateStop
    abortUnconfirmed := r.abortUnconfirmed }

/-- The completion record of a slot that has just ended (R20), with the sequence number it receives (R158). -/
def Slot.recordOf (x : Slot) (i : SlotId) (r : Result) (seq : Byte) : Record :=
  { seq := seq, slot := i, station := x.desc.station, kind := x.desc.kind, outcome := r.outcome
    bytesMoved := x.bytesMoved, short := x.short, stationStatus := r.stationStatus
    retriesUsed := x.retriesUsed, busyReplies := x.busySeen, lateStop := r.lateStop
    abortUnconfirmed := r.abortUnconfirmed }

/-- A record joins the tail of the queue; the sequence counter and the unannounced count rise by 1 (R158, R163). -/
def State.appendRecord (s : State) (rec : Record) : State :=
  { s with
    queue := s.queue ++ [rec]
    seqCounter := s.seqCounter + 1
    unannounced := s.unannounced + 1 }

/-- The slot states the completion step is taken in: QUEUED, OPEN, PARKED, ABORTING, and CLAIMED for R15 (R19). -/
def SlotState.canComplete (st : SlotState) : Bool := st.isActive || decide (st = .claimed)

/-- The completion step (R19): the slot leaves its dispatch list and its station's record, its result is written, its
unused blocks return, it becomes COMPLETE and its record joins the queue. A slot in another state is left as it is
(R24). -/
def State.complete (s : State) (i : SlotId) (r : Result) : State :=
  let x := s.slot i
  if x.state.canComplete then
    (((((s.leaveList i).leaveStation i).modSlot i fun y => y.close r).returnBlocks i
      x.keptBlocks).appendRecord (x.recordOf i r s.seqCounter))
  else s

/-- Complete each of a list of slots with one outcome, by its own step and in list order (R21). -/
def State.completeAll (s : State) (ids : List SlotId) (o : Ending) : State :=
  ids.foldl (fun t i => t.complete i { outcome := o }) s

/-- Complete an ABORTING slot with its pending outcome (R68, R151, R153). -/
def State.completePending (s : State) (i : SlotId) (unconfirmed : Bool) : State :=
  match (s.slot i).pendingOutcome with
  | some o => s.complete i { outcome := o, abortUnconfirmed := unconfirmed }
  | none => s

/-- The slots of the dispatch lists, in walk order, that a station's event reaches: those addressed to the station in
one of the given states. -/
def State.slotsAt (s : State) (st : StationId) (p : SlotState → Bool) : List SlotId :=
  s.walkOrder.filter fun i => (s.slot i).isAt st && p (s.slot i).state

/-- POP of a queue that holds a record (R161): the head leaves, its slot goes from COMPLETE to SETTLED, the unannounced
count is lowered to the records present, and the holdoff timer stops when the queue is now empty. -/
def State.popHead (s : State) (rec : Record) (rest : List Record) : State :=
  ({ s with
      queue := rest
      unannounced := min s.unannounced rest.length
      holdoffTimer := if rest.isEmpty then none else s.holdoffTimer }).modSlot rec.slot fun x =>
    { x with state := if x.state = SlotState.complete then SlotState.settled else x.state }

end Sys2Proof.Machine
end

