-- ==== Sys2Proof/Machine/Frames.lean ====
section
/-! DEFINITION. The frames of the line: bytes and times, the layout of R48, the CRC of R50, the controller frames of R51 and
the station frames of R54. -/

namespace Sys2Proof.Machine

/-! ## Bytes and times -/

/-- Clock periods (32 MHz) in one bit of the line (R43). -/
def BitRate.bitClocks : BitRate → Nat
  | .kbit500 => 64
  | .mbit1 => 32
  | .mbit2 => 16
  | .mbit4 => 8

/-- Clock periods in the inter-frame gap of 4 byte-times (R43, R47). -/
def BitRate.gapClocks (r : BitRate) : Nat := Config.gapByteTimes * (Config.bitsPerByte * r.bitClocks)

/-- Clock periods of idle that end a received frame, 3 byte-times (R43, R46). -/
def BitRate.idleClocks (r : BitRate) : Nat := Config.endIdleByteTimes * (Config.bitsPerByte * r.bitClocks)

/-- The ten levels of one byte on the line, first to last: start bit low, data bit 0 first, stop bit high (R43). -/
def lineBits (b : Byte) : List Bool :=
  false :: ((List.range 8).map fun k => b.getLsbD k) ++ [true]

/-- The levels of a frame's bytes on the line, one a bit-time, each start bit directly after the stop bit before (R43). -/
def frameLevels (bytes : List Byte) : List Bool := bytes.flatMap lineBits

/-- Clock periods that the sending of a frame takes (R43). -/
def BitRate.sendClocks (r : BitRate) (bytes : List Byte) : Nat := (frameLevels bytes).length * r.bitClocks

/-- The level of the LINE_TX pin, in bit-time `k` of the frame being sent: high while LINE_DE is released, and so at once after an
abandonment or a reset, otherwise the frame's own level (R42, R43, R60). -/
def State.lineTx (s : State) (k : Nat) : Bool :=
  match s.frame with
  | some f => if f.phase = .sending then ((frameLevels f.bytes)[k]?).getD true else true
  | none => true

/-- The byte that eight sampled data bits spell, first sampled bit lowest (R43, R45). -/
def byteOfBits (bits : List Bool) : Byte :=
  BitVec.ofNat 8 (bits.foldr (fun b n => 2 * n + b.toNat) 0)

/-! ## The CRC -/

/-- One of the eight shifts of the CRC computation (R50). -/
def crcShift (r : BitVec 16) : BitVec 16 :=
  if r.getLsbD 15 then (r <<< 1) ^^^ 0x1021 else r <<< 1

/-- One byte's part of the CRC: added into the upper eight bits, then eight shifts (R50). -/
def crcByte (r : BitVec 16) (b : Byte) : BitVec 16 :=
  Nat.repeat crcShift 8 (r ^^^ (b.setWidth 16 <<< 8))

/-- The CRC of a run of bytes, from FFFFh (R50). -/
def crc16 (bytes : List Byte) : BitVec 16 := bytes.foldl crcByte 0xFFFF

/-- A 16-bit field on the line, low byte first (R48, R51). -/
def lowFirst (v : BitVec 16) : List Byte := [v.extractLsb' 0 8, v.extractLsb' 8 8]

/-! ## The layout of R48 -/

/-- The fixed opener (R48). -/
def opener : Byte := 0xB4

/-- Bytes 1 to 5 + n of a frame (R48): route, kind, tag and index, argument, payload length, payload. -/
def frameBody (route kind : Byte) (tag : Nat) (index : Nat) (argument : Byte) (payload : List Byte) :
    List Byte :=
  [route, kind, BitVec.ofNat 8 (tag + 16 * index), argument, BitVec.ofNat 8 payload.length] ++ payload

/-- A whole frame: opener, body and the CRC of the body, low byte first (R48, R50). -/
def frameBytes (body : List Byte) : List Byte := opener :: body ++ lowFirst (crc16 body)

/-- Controller frame codes (R51). -/
def FrameKind.code : FrameKind → Byte
  | .sync => 1
  | .openReq => 2
  | .send => 3
  | .pull => 4
  | .finish => 5
  | .poll => 6
  | .abort => 7

/-- Kind codes in the OPEN payload and in the registers (R51, R194). -/
def Kind.code : Kind → Nat
  | .noKind => 0
  | .store => 1
  | .fetch => 2
  | .control => 3

/-- The payload of an OPEN: exchange kind, selector and length, low bytes first (R51, R103). -/
def Slot.openPayload (x : Slot) : List Byte :=
  BitVec.ofNat 8 x.desc.kind.code :: lowFirst x.desc.selector ++ lowFirst (x.desc.length.setWidth 16)

/-- The size of segment `k` of a length: 64 bytes, or what is left for the last (R99). -/
def segmentSize (length k : Nat) : Nat := min Config.segmentBytes (length - Config.segmentBytes * k)

/-- The payload of SEND `k`: segment `k`, read from the slot's chain (R35, R107). -/
def segmentBytes (m : Memory) (x : Slot) (k : Nat) : List Byte :=
  chainBytes m x.chain (Config.segmentBytes * k) (segmentSize x.desc.length.toNat k)

/-- The payload of a controller frame for a slot (R51). -/
def slotPayload (m : Memory) (x : Slot) (kind : FrameKind) (index : Nat) : List Byte :=
  match kind with
  | .openReq => x.openPayload
  | .send => segmentBytes m x index
  | .sync => []
  | .pull => []
  | .finish => []
  | .poll => []
  | .abort => []

/-- The argument of a controller frame for a slot: the function in an OPEN, 0 in every other (R51). -/
def slotArgument (x : Slot) (kind : FrameKind) : Byte :=
  match kind with
  | .openReq => x.desc.function
  | .sync => 0
  | .send => 0
  | .pull => 0
  | .finish => 0
  | .poll => 0
  | .abort => 0

/-- The route byte: station address and direction, 0 from controller to station, 1 back (R48, R49). -/
def routeByte (st : StationId) (fromStation : Bool) : Byte :=
  BitVec.ofNat 8 (st.val + 1 + (if fromStation then 16 else 0))

/-- The controller frame that serves a slot (R51). -/
def buildSlotFrame (m : Memory) (i : SlotId) (x : Slot) (kind : FrameKind) (st : StationId)
    (index : Nat) : Frame :=
  { kind := kind, station := st, slot := some i, index := index, phase := .sending, replyTimer := none
    bytes := frameBytes (frameBody (routeByte st false) kind.code i.val index (slotArgument x kind)
      (slotPayload m x kind index)) }

/-- The controller frame that serves a station alone, SYNC or POLL: tag, index and argument 0, no payload (R51). -/
def buildStationFrame (kind : FrameKind) (st : StationId) : Frame :=
  { kind := kind, station := st, slot := none, index := 0, phase := .sending, replyTimer := none
    bytes := frameBytes (frameBody (routeByte st false) kind.code 0 0 0 []) }

/-! ## Station frames -/

/-- A station frame as the LX16 examines it: its kind and the fields that kind uses (R54). -/
inductive Reply where
  | present (depth : Byte)
  | accept
  | refuse (reason : Byte)
  | taken
  | give (payload : List Byte)
  | result (status : Byte)
  | wait
  | park
  | nothing
  | ready (tag : SlotId)
  | done
deriving DecidableEq, Repr

/-- The reply kinds each controller frame permits (R55). -/
def FrameKind.allows : FrameKind → Reply → Bool
  | .sync, .present _ => true
  | .openReq, .accept => true
  | .openReq, .refuse _ => true
  | .openReq, .wait => true
  | .send, .taken => true
  | .send, .wait => true
  | .send, .park => true
  | .pull, .give _ => true
  | .pull, .wait => true
  | .pull, .park => true
  | .finish, .result _ => true
  | .finish, .wait => true
  | .finish, .park => true
  | .poll, .nothing => true
  | .poll, .ready _ => true
  | .abort, .done => true
  | _, _ => false

/-- Checks 5 to 8 of R57, which read the reply's own fields and the slot and station records as they stand. -/
def State.replyFits (s : State) (f : Frame) : Reply → Bool
  | .present depth => decide (depth.toNat ≤ 3)
  | .refuse reason => decide (reason ≠ 0)
  | .give payload =>
    match f.slot with
    | some i => decide (payload.length ≤ (s.slot i).desc.length.toNat - (s.slot i).bytesMoved)
    | none => false
  | .park => decide ((s.station f.station).parked.length < (s.station f.station).parkDepth)
  | .ready tag => (s.station f.station).parked.contains tag
  | .accept => true
  | .taken => true
  | .result _ => true
  | .wait => true
  | .nothing => true
  | .done => true

/-- A well-formed reply under the tag and index of the frame in flight is valid: it is an allowed reply (R55) and passes
the other checks of R57. -/
def State.replyValid (s : State) (f : Frame) (r : Reply) : Bool := f.kind.allows r && s.replyFits f r

end Sys2Proof.Machine
end

