-- ==== Sys2Proof/Machine/Scheduler.lean ====
section
/-! DEFINITION. The dispatch scheduler (Chapter 5): when a frame is chosen, which one, and the step of its choice. -/

namespace Sys2Proof.Machine

/-- SEND or PULL with the next index in phase DATA, FINISH in phase FINISHING (R83, R90). -/
def Slot.exchangeFrame (x : Slot) : Option (FrameKind × Nat) :=
  match x.phase with
  | .finishing => some (.finish, 0)
  | .data =>
    match x.desc.kind with
    | .store => some (.send, x.nextIndex)
    | .fetch => some (.pull, x.nextIndex)
    | .control => none
    | .noKind => none

/-- The frame that a slot's state, phase and next index offer (R83): OPEN while QUEUED, SEND, PULL or FINISH while OPEN and
at its resumption while PARKED, ABORT while ABORTING. -/
def Slot.nextFrame (x : Slot) : Option (FrameKind × Nat) :=
  match x.state with
  | .queued => some (.openReq, 0)
  | .opened => x.exchangeFrame
  | .parked => x.exchangeFrame
  | .aborting => some (.abort, 0)
  | .free => none
  | .claimed => none
  | .complete => none
  | .settled => none

/-- What a choice yields: a slot's frame, a resumption, a SYNC or a POLL. -/
inductive Choice where
  | slotFrame (i : SlotId)
  | resume (i : SlotId)
  | sync (st : StationId)
  | poll (st : StationId)
deriving DecidableEq, Repr

/-- The stations in ascending address order (R87, R88). -/
def stationOrder : List StationId := [0, 1, 2, 3, 4, 5, 6, 7]

/-- Room for one more parked exchange: the parked list is below the park depth, or empty for depth 0 (R92). -/
def Station.hasParkRoom (r : Station) : Bool :=
  decide (r.parked.length < r.parkDepth) || (decide (r.parkDepth = 0) && r.parked.isEmpty)

/-- A SYNC is owed to the station (R65, R87). -/
def Station.owesSync (r : Station) : Bool :=
  decide (r.state = .probing) || decide (r.state = .withdrawing)

/-- A POLL is due to the station and its backoff timer does not run (R88). -/
def Station.pollEligible (r : Station) : Bool :=
  decide (r.state = .online) && decide (r.pollTimer = .expired) && r.backoff.isNone

/-- An ABORT is owed for the slot: it is ABORTING at an ONLINE station (R86). -/
def State.abortOwed (s : State) (i : SlotId) : Bool :=
  decide ((s.slot i).state = .aborting) && decide (s.stationStateOf (s.slot i) = some .online)

/-- What the walk finds at one slot (R89): the frame of an OPEN slot (R90), the resumption of a ready PARKED slot (R91), the
OPEN of a QUEUED slot (R92), each at an ONLINE station out of backoff. -/
def State.walkChoice (s : State) (i : SlotId) : Option Choice :=
  let x := s.slot i
  match x.desc.stationId with
  | none => none
  | some st =>
    let r := s.station st
    if decide (r.state = .online) && r.backoff.isNone && x.nextFrame.isSome then
      match x.state with
      | .opened => some (.slotFrame i)
      | .parked => if x.ready && r.engaged.isNone then some (.resume i) else none
      | .queued => if r.engaged.isNone && r.hasParkRoom then some (.slotFrame i) else none
      | .aborting => none
      | .free => none
      | .claimed => none
      | .complete => none
      | .settled => none
    else none

/-- Step 1: the ABORT owed for the first slot in dispatch-list order (R86). -/
def State.abortChoice (s : State) : Option Choice := (s.walkOrder.find? s.abortOwed).map .slotFrame

/-- Step 2: the SYNC owed to the lowest-addressed station (R87). -/
def State.syncChoice (s : State) : Option Choice :=
  (stationOrder.find? fun st => (s.station st).owesSync).map .sync

/-- Step 3: the POLL due to the lowest-addressed station out of backoff (R88). -/
def State.pollChoice (s : State) : Option Choice :=
  (stationOrder.find? fun st => (s.station st).pollEligible).map .poll

/-- The order of choice: all steps in RUNNING, step 2 alone in STARTING, none in another link state (R82, R85, R94). -/
def State.choose (s : State) : Option Choice :=
  match s.link with
  | .running =>
    s.abortChoice.or (s.syncChoice.or (s.pollChoice.or (s.walkOrder.findSome? s.walkChoice)))
  | .starting => s.syncChoice
  | .off => none
  | .stopping => none
  | .suspended => none

/-- A frame enters SENDING: it becomes the frame in flight, bits are driven, frames sent rises by 1 (R95), and a late reply that is
still arriving is cut off from the receiver (R42, R59). -/
def State.beginFrame (s : State) (f : Frame) : State :=
  { s with
    frame := some f
    gapPassed := false
    receiver := .waiting
    stats := { s.stats with framesSent := s.stats.framesSent + 1 } }

/-- The choice of the frame a slot offers: its in-flight flag is set, and for an OPEN its possibly opened flag (R95). -/
def State.sendSlotFrame (s : State) (i : SlotId) : State :=
  let x := s.slot i
  match x.nextFrame, x.desc.stationId with
  | some (kind, index), some st =>
    (s.modSlot i fun y =>
      { y with inFlight := true, possiblyOpened := y.possiblyOpened || decide (kind = .openReq) }).beginFrame
      (buildSlotFrame s.mem i x kind st index)
  | _, _ => s

/-- Resumption (R91): the slot leaves the parked list, its ready flag is cleared, it becomes OPEN and engaged. -/
def State.resumeSlot (s : State) (i : SlotId) : State :=
  match (s.slot i).desc.stationId with
  | some st =>
    ((s.leaveParked st i).modSlot i fun x => { x with state := .opened, ready := false }).modStation st
      fun r => { r with engaged := some i }
  | none => s

/-- The step of a choice (R95). A POLL's choice holds the station's poll timer (R127). -/
def State.sendChoice (s : State) : Choice → State
  | .slotFrame i => s.sendSlotFrame i
  | .resume i => (s.resumeSlot i).sendSlotFrame i
  | .sync st => s.beginFrame (buildStationFrame .sync st)
  | .poll st =>
    (s.modStation st fun r => { r with pollTimer := .held }).beginFrame (buildStationFrame .poll st)

/-- The line is idle to the scheduler: no frame in flight and the gap has passed (R47, R80). -/
def State.lineIdle (s : State) : Bool := s.frame.isNone && s.gapPassed

/-- The scheduler's part of an event: at an idle line, in a link state that allows it, the first eligible frame is chosen
and enters SENDING in the same step; with none eligible the line stays idle (R80, R81). -/
def State.dispatch (s : State) : State :=
  if s.lineIdle then
    match s.choose with
    | some c => s.sendChoice c
    | none => s
  else s

end Sys2Proof.Machine
end

