-- ==== Sys2Proof/Machine/Exchange.lean ====
section
/-! DEFINITION. What happens to a slot: posting, stop requests, entry to ABORTING, and the effect of each valid reply, failure
and WAIT on the slot whose frame it answers (Chapters 1, 6 and 8). -/

namespace Sys2Proof.Machine

/-! ## Posting (1.6) -/

/-- The progress fields as POST sets them (1.2.2, R4, R16). -/
def Slot.startProgress (x : Slot) : Slot :=
  { x with
    phase := .data
    nextIndex := 0
    bytesMoved := 0
    retriesLeft := x.desc.retryAllowance.toNat
    retriesUsed := 0
    busyLeft := x.desc.busyAllowance.toNat
    busySeen := 0
    possiblyOpened := false
    inFlight := false
    ready := false }

/-- The record of a slot whose POST is accepted into QUEUED (R16). -/
def Slot.enqueue (x : Slot) : Slot :=
  { x.startProgress with
    state := .queued
    lifetimeTimer := if x.desc.lifetime = 0 then none else some x.desc.lifetime.toNat }

/-- Blocks that a POST reserves: those of a FETCH's length, none for the other kinds (R34). -/
def Slot.reservation (x : Slot) : Nat :=
  match x.desc.kind with
  | .fetch => blocksFor x.desc.length.toNat
  | .store => 0
  | .control => 0
  | .noKind => 0

/-- The checks of R14 in their order; none when all pass. -/
def postRefusal (x : Slot) (freeCount : Nat) : Option Status :=
  let len := x.desc.length.toNat
  let inRange : Bool := decide (1 ≤ len) && decide (len ≤ Config.maxLength)
  if x.desc.stationId = none then some .badDescriptor
  else match x.desc.kind with
    | .noKind => some .badDescriptor
    | .store =>
      if !inRange then some .badDescriptor
      else if x.fillError then some .fillError
      else if x.fillCursor < len then some .badDescriptor
      else none
    | .fetch =>
      if !(inRange && decide (x.fillCursor = 0)) then some .badDescriptor
      else if freeCount < x.reservation then some .noSpace
      else none
    | .control =>
      if len = 0 ∧ x.fillCursor = 0 then none else some .badDescriptor

/-- A POST accepted into QUEUED: the record, the dispatch list, and a FETCH's reservation, in one step (R16, R34). -/
def State.enqueueSlot (s : State) (i : SlotId) : State :=
  let x := s.slot i
  ((s.modSlot i fun y => y.enqueue).joinList i x.desc.cls).takeBlocks i x.reservation

/-! ## Entry to ABORTING and stop requests (8.4 to 8.6) -/

/-- The outcome a stop request carries (R144). -/
def StopKind.ending : StopKind → Ending
  | .cancelled => .cancelled
  | .timedOut => .timedOut

/-- The record of a slot entering ABORTING (R149). -/
def Slot.toAborting (x : Slot) (o : Ending) : Slot :=
  { x with
    state := .aborting
    pendingOutcome := some o
    abortAttempts := Config.abortAttempts
    stopRequest := none
    ready := false }

/-- Entry to ABORTING with a pending outcome (R149): an engaged slot stays engaged, a parked slot leaves the parked list. -/
def State.enterAborting (s : State) (i : SlotId) (o : Ending) : State :=
  let x := s.slot i
  let t := s.modSlot i fun y => y.toAborting o
  match x.desc.stationId with
  | some st => t.leaveParked st i
  | none => t

/-- A stop request taken when the slot's in-flight flag is clear (R144). -/
def State.stopAtOnce (s : State) (i : SlotId) (k : StopKind) : State :=
  match (s.slot i).state, (s.slot i).possiblyOpened with
  | .queued, false => s.complete i { outcome := k.ending }
  | .queued, true => s.enterAborting i k.ending
  | .opened, _ => s.enterAborting i k.ending
  | .parked, _ => s.enterAborting i k.ending
  | .free, _ => s
  | .claimed, _ => s
  | .aborting, _ => s
  | .complete, _ => s
  | .settled, _ => s

/-- The slot states in which a stop request is taken: QUEUED, OPEN and PARKED (R143, R144). -/
def SlotState.canStop : SlotState → Bool
  | .queued => true
  | .opened => true
  | .parked => true
  | .free => false
  | .claimed => false
  | .aborting => false
  | .complete => false
  | .settled => false

/-- The slot takes a stop request: it is QUEUED, OPEN or PARKED and holds none (R142, R143). -/
def Slot.takesStop (x : Slot) : Bool := x.state.canStop && x.stopRequest.isNone

/-- A stop request is taken: held over a frame of the slot in flight (R145), at once otherwise (R144). -/
def State.takeStop (s : State) (i : SlotId) (k : StopKind) : State :=
  if (s.slot i).inFlight then s.modSlot i fun x => { x with stopRequest := some k }
  else s.stopAtOnce i k

/-! ## Valid replies (Chapter 6, with the resolution of a held stop of 8.5) -/

/-- After a reply's movement: with a stop request held the slot goes to ABORTING with its outcome (R102, R148), otherwise
the reply's own transition `t` is taken. -/
def State.resolveStop (s : State) (i : SlotId) (t : State → State) : State :=
  match (s.slot i).stopRequest with
  | some k => s.enterAborting i k.ending
  | none => t s

/-- ACCEPT (R104): the slot becomes engaged, OPEN, in phase DATA or, for a CONTROL, FINISHING. -/
def State.slotAccept (s : State) (i : SlotId) (st : StationId) : State :=
  let moved := (s.modSlot i fun x =>
    { x with
      phase := if x.desc.kind = .control then .finishing else .data
      nextIndex := 0
      bytesMoved := 0 }).modStation st fun r => { r with engaged := some i }
  moved.resolveStop i fun t => t.modSlot i fun x => { x with state := .opened }

/-- REFUSE with reason `r` (R105, R146): the possibly opened flag is cleared and the slot completes REFUSED. -/
def State.slotRefuse (s : State) (i : SlotId) (r : Byte) : State :=
  (s.modSlot i fun x => { x with possiblyOpened := false }).complete i
    { outcome := .refused, stationStatus := some r, lateStop := (s.slot i).stopRequest.isSome }

/-- RESULT with status `v` (R114, R146): OK for 0 and STATION_ERROR otherwise. -/
def State.slotResult (s : State) (i : SlotId) (v : Byte) : State :=
  s.complete i
    { outcome := if v = 0 then .ok else .stationError
      stationStatus := some v
      lateStop := (s.slot i).stopRequest.isSome }

/-- The payload bytes moved counter rises by the bytes of a TAKEN or GIVE the slot takes (R120). -/
def State.countPayload (s : State) (n : Nat) : State :=
  { s with stats := { s.stats with payloadBytes := s.stats.payloadBytes + BitVec.ofNat 32 n } }

/-- A STORE slot's fields after TAKEN for its next segment (R108). -/
def Slot.afterTaken (x : Slot) : Slot :=
  let moved := x.bytesMoved + segmentSize x.desc.length.toNat x.nextIndex
  { x with
    bytesMoved := moved
    nextIndex := x.nextIndex + 1
    phase := if moved = x.desc.length.toNat then .finishing else x.phase }

/-- TAKEN (R108): the segment's size is counted, and the slot stays OPEN unless a stop is resolved. -/
def State.slotTaken (s : State) (i : SlotId) : State :=
  let n := segmentSize (s.slot i).desc.length.toNat (s.slot i).nextIndex
  ((s.modSlot i fun x => x.afterTaken).countPayload n).resolveStop i id

/-- A FETCH slot's fields after GIVE of `p` bytes (R111, R112). -/
def Slot.afterGive (x : Slot) (p : Nat) : Slot :=
  let moved := x.bytesMoved + p
  let ends : Bool := decide (p < Config.segmentBytes) || decide (moved = x.desc.length.toNat)
  { x with
    bytesMoved := moved
    nextIndex := x.nextIndex + 1
    phase := if ends then .finishing else x.phase
    short := x.short || (ends && decide (moved < x.desc.length.toNat)) }

/-- GIVE (R111, R112, R36): the payload is written to the chain at the segment's offset and counted, and the slot stays OPEN
unless a stop is resolved. -/
def State.slotGive (s : State) (i : SlotId) (payload : List Byte) : State :=
  let x := s.slot i
  let m := chainPutAll s.mem x.chain (Config.segmentBytes * x.nextIndex) payload
  ((({ s with mem := m }).modSlot i fun y => y.afterGive payload.length).countPayload
    payload.length).resolveStop i id

/-- A slot's busy counts after a WAIT (R140). -/
def Slot.countBusy (x : Slot) : Slot :=
  { x with
    busySeen := min Config.busySeenCap (x.busySeen + 1)
    busyLeft := if x.desc.busyAllowance = 0 then x.busyLeft else x.busyLeft - 1 }

/-- The WAIT brings busy left to 0 from 1 (R141). -/
def Slot.busyRunsOut (x : Slot) : Bool := decide (x.desc.busyAllowance ≠ 0) && decide (x.busyLeft = 1)

/-- WAIT to an OPEN: the possibly opened flag is cleared while retries used is 0 (R106, R140). -/
def Slot.waitToOpen (x : Slot) : Slot :=
  { x with possiblyOpened := x.possiblyOpened && decide (x.retriesUsed ≠ 0) }

/-- WAIT (R106, R118, R140, R141, R147, R148): the busy counts change; a held stop is then resolved, completing a QUEUED slot
that is not possibly opened, and otherwise a busy allowance that runs out ends the slot by its context. -/
def State.slotWait (s : State) (i : SlotId) (kind : FrameKind) : State :=
  let ranOut := (s.slot i).busyRunsOut
  let t := s.modSlot i fun x => if kind = .openReq then x.countBusy.waitToOpen else x.countBusy
  let noContext : Bool := decide (kind = .openReq) && !(t.slot i).possiblyOpened
  match (t.slot i).stopRequest with
  | some k =>
    if noContext then t.complete i { outcome := k.ending } else t.enterAborting i k.ending
  | none =>
    if ranOut then
      if noContext then t.complete i { outcome := .busyLimit } else t.enterAborting i .busyLimit
    else t

/-- PARK (R116, R148): the engaged field is emptied; unless a stop is resolved the slot becomes PARKED, joins the tail of the
parked list with its ready flag clear, and a stopped poll timer starts. -/
def State.slotPark (s : State) (i : SlotId) (st : StationId) : State :=
  (s.modStation st fun r => { r with engaged := none }).resolveStop i fun t =>
    ((t.modSlot i fun x => { x with state := .parked, ready := false }).modStation st fun r =>
      { r with parked := r.parked ++ [i] }).startPollTimer st

/-- The effect on the slot of a valid reply it takes (R101, R135). A pair that R55 does not allow changes nothing. -/
def State.slotValid (s : State) (i : SlotId) (f : Frame) : Reply → State
  | .accept => s.slotAccept i f.station
  | .refuse r => s.slotRefuse i r
  | .taken => s.slotTaken i
  | .give payload => s.slotGive i payload
  | .result v => s.slotResult i v
  | .wait => s.slotWait i f.kind
  | .park => s.slotPark i f.station
  | .done => s.completePending i false
  | .present _ => s
  | .nothing => s
  | .ready _ => s

/-! ## Failed outcomes (8.2) -/

/-- A retry (R136). -/
def Slot.retry (x : Slot) : Slot :=
  { x with retriesLeft := x.retriesLeft - 1, retriesUsed := x.retriesUsed + 1 }

/-- A silent, garbled or violation outcome of the slot's OPEN, SEND, PULL or FINISH without a fault step (R135): a held stop is
resolved (R148); a violation sends the slot to ABORTING (R139); otherwise a retry (R136) or LINK_ERROR (R137). -/
def State.slotFailed (s : State) (i : SlotId) (violation : Bool) : State :=
  s.resolveStop i fun t =>
    if violation then t.enterAborting i .protocol
    else if 0 < (t.slot i).retriesLeft then t.modSlot i fun x => x.retry
    else t.complete i { outcome := .linkError }

end Sys2Proof.Machine
end

