-- ==== Sys2Proof/Machine/StationTable.lean ====
section
/-! DEFINITION. What happens to a station: enabling, probing, withdrawal, failure counting and the fault step, backoff
(Chapter 4). -/

namespace Sys2Proof.Machine

/-- A station that leaves ONLINE: engaged field and parked list emptied, both timers stopped (R64, R73, R75, R76). -/
def Station.leaveOnline (r : Station) : Station :=
  { r with engaged := none, parked := [], backoff := none, pollTimer := .stopped }

/-! ## Enabling and disabling (4.3, 4.5) -/

/-- The record of a station made ready for probing by ENABLE_STATION (R66). -/
def Station.enable (r : Station) : Station :=
  { r.leaveOnline with
    state := .probing
    probeAttempts := Config.probeAttempts
    withdrawAttempts := 0
    parkDepth := 0
    failures := 0 }

/-- The record of a station that DISABLE_STATION takes from PROBING, ABSENT or FAULTY to DISABLED (R67). Consecutive failures, which
only a FAULTY station can hold (R73), become 0, as R72 says of every state outside ONLINE. The park depth of a FAULTY station
is named by no rule: it is kept until the station is enabled again, the model's choice (assumption log 20). -/
def Station.disable (r : Station) : Station :=
  { r with state := .disabled, probeAttempts := 0, failures := 0, changed := true }

/-- DISABLE_STATION of a PROBING, ABSENT or FAULTY station: it is DISABLED at once and its QUEUED and ABORTING slots complete
WITHDRAWN (R67). -/
def State.disableAtOnce (s : State) (st : StationId) : State :=
  (s.modStation st fun r => r.disable).completeAll
    (s.slotsAt st fun x => decide (x = .queued) || decide (x = .aborting)) .withdrawn

/-- The record at the start of a withdrawal (R70): the park depth is kept until the withdrawal ends (R71). -/
def Station.beginWithdrawal (r : Station) : Station :=
  { r with
    state := .withdrawing
    withdrawAttempts := Config.withdrawAttempts
    failures := 0
    backoff := none
    pollTimer := .stopped }

/-- Step 2 of a withdrawal: the engaged slot, OPEN or ABORTING, completes WITHDRAWN and the engaged field is empty (R70). -/
def State.withdrawEngaged (s : State) (st : StationId) : State :=
  (match (s.station st).engaged with
    | some i => s.complete i { outcome := .withdrawn }
    | none => s).modStation st fun r => { r with engaged := none }

/-- Step 3 of a withdrawal: the parked slots leave the list with their ready flags clear and stay PARKED (R70). -/
def State.withdrawParked (s : State) (st : StationId) : State :=
  ((s.station st).parked.foldl (fun t i => t.modSlot i fun x => { x with ready := false }) s).modStation st
    fun r => { r with parked := [] }

/-- Step 4 of a withdrawal: the in-flight flag of a slot of this station whose frame is in flight is cleared (R70). -/
def State.detachFrame (s : State) (st : StationId) : State :=
  match s.frame with
  | some f =>
    match f.slot with
    | some i => if f.station = st then s.modSlot i fun x => { x with inFlight := false } else s
    | none => s
  | none => s

/-- DISABLE_STATION of an ONLINE station begins a withdrawal (R70). -/
def State.startWithdrawal (s : State) (st : StationId) : State :=
  (((s.modStation st fun r => r.beginWithdrawal).withdrawEngaged st).withdrawParked st).detachFrame st

/-- The record at the end of a withdrawal (R71, R78). -/
def Station.endWithdrawal (r : Station) : Station :=
  { r.leaveOnline with
    state := .disabled
    parkDepth := 0
    failures := 0
    withdrawAttempts := 0
    changed := true }

/-- The end of a withdrawal: the station is DISABLED and its QUEUED, PARKED and ABORTING slots complete WITHDRAWN (R71). -/
def State.finishWithdrawal (s : State) (st : StationId) : State :=
  (s.modStation st fun r => r.endWithdrawal).completeAll
    (s.slotsAt st fun x => decide (x = .queued) || decide (x = .parked) || decide (x = .aborting)) .withdrawn

/-! ## Probing (4.4) -/

/-- The record of a PROBING station that answers PRESENT with depth `d` (R68). -/
def Station.goOnline (r : Station) (d : Nat) : Station :=
  { r with state := .online, parkDepth := d, failures := 0, probeAttempts := 0, changed := true }

/-- The possibly opened flag of every QUEUED slot of the station is cleared (R68 step 3). -/
def State.forgetOpens (s : State) (st : StationId) : State :=
  (s.slotsAt st fun x => decide (x = .queued)).foldl
    (fun t i => t.modSlot i fun x => { x with possiblyOpened := false }) s

/-- Every ABORTING slot of the station completes with its pending outcome (R68 step 2). -/
def State.settleAborts (s : State) (st : StationId) : State :=
  (s.slotsAt st fun x => decide (x = .aborting)).foldl (fun t i => t.completePending i false) s

/-- A PROBING station takes a valid PRESENT (R68). -/
def State.probeAnswered (s : State) (st : StationId) (d : Nat) : State :=
  ((s.modStation st fun r => r.goOnline d).settleAborts st).forgetOpens st

/-- A PROBING station's SYNC fails: one attempt is lost, and with none left the station is ABSENT and its QUEUED and ABORTING
slots complete NO_STATION (R69). -/
def State.probeFailed (s : State) (st : StationId) : State :=
  let left := (s.station st).probeAttempts - 1
  if left = 0 then
    (s.modStation st fun r =>
      { r with state := .absent, probeAttempts := 0, parkDepth := 0, failures := 0, changed := true }).completeAll
      (s.slotsAt st fun x => decide (x = .queued) || decide (x = .aborting)) .noStation
  else s.modStation st fun r => { r with probeAttempts := left }

/-- A WITHDRAWING station's SYNC fails: from 2 attempts to 1, and at 1 the withdrawal ends (R71). -/
def State.withdrawFailed (s : State) (st : StationId) : State :=
  if (s.station st).withdrawAttempts ≤ 1 then s.finishWithdrawal st
  else s.modStation st fun r => { r with withdrawAttempts := r.withdrawAttempts - 1 }

/-! ## Failures and faults (4.6) -/

/-- The record of a station taken to FAULTY; consecutive failures keeps its value (R73). -/
def Station.fault (r : Station) : Station :=
  { r.leaveOnline with state := .faulty, changed := true }

/-- The fault step (R73): the station is FAULTY, the causing slot completes first, then every other slot of the station, in
walk order, STATION_FAULT. -/
def State.faultStep (s : State) (st : StationId) (cause : State → State) : State :=
  let t := cause (s.modStation st fun r => r.fault)
  t.completeAll (t.slotsAt st SlotState.isActive) .stationFault

/-- The abort ends unconfirmed: a violation, or a failure at the last attempt (R153). -/
def Slot.abortEnds (x : Slot) (violation : Bool) : Bool := violation || decide (x.abortAttempts ≤ 1)

/-- An ABORTING slot as the causing slot of a fault step: it completes with its pending outcome and the abort-unconfirmed flag set
(R74, R152, R153). Where the abort ends unconfirmed by R153 its attempts become 0; a first failed attempt that reaches the
threshold leaves them at 2, the model's choice, since R152 names no value (assumption log 20). -/
def State.endAbort (s : State) (i : SlotId) (violation : Bool) : State :=
  (s.modSlot i fun x =>
    { x with abortAttempts := if x.abortEnds violation then 0 else x.abortAttempts }).completePending i true

/-- The causing slot's completion when the threshold is reached (R74). -/
def State.completeCause (s : State) (i : SlotId) (kind : FrameKind) (violation : Bool) : State :=
  match kind with
  | .abort => s.endAbort i violation
  | .sync => s
  | .openReq => s.complete i { outcome := failEnding }
  | .send => s.complete i { outcome := failEnding }
  | .pull => s.complete i { outcome := failEnding }
  | .finish => s.complete i { outcome := failEnding }
  | .poll => s
where
  /-- LINK_ERROR for a lost or damaged reply with no retries left, STATION_FAULT otherwise (R74). -/
  failEnding : Ending :=
    if !violation && decide ((s.slot i).retriesLeft = 0) then .linkError else .stationFault

/-- An ABORT that failed without the count reaching the threshold: a failed attempt (R152), or, at the last attempt or at a
violation, unconfirmed with the fault step (R153). -/
def State.abortFailed (s : State) (i : SlotId) (st : StationId) (violation : Bool) : State :=
  if (s.slot i).abortEnds violation then s.faultStep st fun t => t.endAbort i violation
  else s.modSlot i fun x => { x with abortAttempts := x.abortAttempts - 1 }

/-- The failure of a frame without a fault step, at the slot that takes it (R135, R152, R153). -/
def State.slotFailure (s : State) (i : SlotId) (f : Frame) (violation : Bool) : State :=
  match f.kind with
  | .abort => s.abortFailed i f.station violation
  | .openReq => s.slotFailed i violation
  | .send => s.slotFailed i violation
  | .pull => s.slotFailed i violation
  | .finish => s.slotFailed i violation
  | .sync => s
  | .poll => s

/-- A failed non-SYNC outcome at an ONLINE station adds 1 to its consecutive failures (R72). -/
def State.countFailure (s : State) (st : StationId) : State :=
  if (s.station st).state = .online then
    s.modStation st fun r => { r with failures := r.failures + 1 }
  else s

/-- The count has reached the fault threshold as configured (R72). -/
def State.faultReached (s : State) (st : StationId) : Bool :=
  decide ((s.station st).state = .online) && decide (s.cfg.faultThreshold ≤ (s.station st).failures)

/-- A valid non-SYNC reply sets an ONLINE station's consecutive failures to 0 (R72). -/
def State.clearFailures (s : State) (st : StationId) : State :=
  if (s.station st).state = .online then s.modStation st fun r => { r with failures := 0 } else s

/-- A valid WAIT starts an ONLINE station's backoff timer from the full interval (R75). -/
def State.startBackoff (s : State) (st : StationId) : State :=
  if (s.station st).state = .online then
    s.modStation st fun r => { r with backoff := some s.cfg.backoffInterval }
  else s

end Sys2Proof.Machine
end

