-- ==== Sys2Proof/Machine/Link.lean ====
section
/-! DEFINITION. The link state: entry to STARTING and RUNNING, the stop or loss step, the silent count (Chapter 10). -/

namespace Sys2Proof.Machine

/-- The bit rate the link engine sends and receives at: the rate taken at the entry to STARTING while the link is STARTING,
RUNNING or STOPPING, the configured one while it is OFF or SUSPENDED (R44). -/
def State.lineRate (s : State) : BitRate :=
  match s.link with
  | .starting => s.takenRate
  | .running => s.takenRate
  | .stopping => s.takenRate
  | .off => s.cfg.bitRate
  | .suspended => s.cfg.bitRate

/-- Entry to RUNNING with the LINK cause, once no station is PROBING or WITHDRAWING and no frame is in flight (R175). -/
def State.enterRunningIfProbed (s : State) : State :=
  if s.link = .starting ∧ s.frame = none ∧ s.stations.toList.all (fun r => !r.owesSync) then
    { s with link := .running, linkCause := true }
  else s

/-- Entry to STARTING (R174, R183): the silent count is 0, the configured bit rate is taken, and with no station to probe the
link passes to RUNNING in the same step (R175). -/
def State.enterStarting (s : State) : State :=
  ({ s with link := .starting, silentCount := 0, takenRate := s.cfg.bitRate }).enterRunningIfProbed

/-- The record of a station when the link enters OFF or SUSPENDED (R78). -/
def Station.linkDown (r : Station) : Station :=
  match r.state with
  | .online =>
    { r.leaveOnline with
      state := .probing
      probeAttempts := Config.probeAttempts
      parkDepth := 0
      failures := 0 }
  | .probing => { r with probeAttempts := Config.probeAttempts }
  | .withdrawing => r.endWithdrawal
  | .absent => r
  | .faulty => r
  | .disabled => r

/-- The slot whose in-flight flag an abandonment clears: the slot of the frame in flight while its flag is set (R60). -/
def State.abandonedSlot (s : State) : Option SlotId :=
  match s.frame with
  | some f =>
    match f.slot with
    | some i => if (s.slot i).inFlight then some i else none
    | none => none
  | none => none

/-- The frame in flight is abandoned (R60): it becomes absent, its slot's in-flight flag is cleared, and a reply being received is
discarded. A first byte of it that is still arriving is received as one of a late reply (R59). The gap from the last bit has
passed only where it did in AWAITING or within that first byte (R47). With no frame in flight nothing changes. -/
def State.abandonFrame (s : State) : State :=
  match s.frame with
  | some f =>
    let arriving : Bool := decide (f.phase = .receiving ∧ s.receiver = .firstByte)
    let t := { s with
      frame := none
      gapPassed := s.gapPassed && (decide (f.phase = .awaiting) || arriving)
      receiver := if arriving then .firstByte else .waiting }
    match f.slot with
    | some i => t.modSlot i fun x => { x with inFlight := false }
    | none => t
  | none => s

/-- How the walk of the stop or loss step ends one slot (R178 step 2, R179); none for a slot it passes over. -/
def State.linkEnding (s : State) (abandoned : Option SlotId) (o : Ending) (i : SlotId) : Option Ending :=
  match (s.slot i).state with
  | .opened => some o
  | .parked => some o
  | .aborting => some o
  | .queued =>
    if s.stationStateOf (s.slot i) = some .withdrawing then some .withdrawn
    else if abandoned = some i then (s.slot i).stopRequest.map StopKind.ending
    else none
  | .free => none
  | .claimed => none
  | .complete => none
  | .settled => none

/-- The walk of the stop or loss step over both dispatch lists (R178 step 2). -/
def State.endLinkSlots (s : State) (abandoned : Option SlotId) (o : Ending) : State :=
  s.walkOrder.foldl (fun t i =>
    match s.linkEnding abandoned o i with
    | some e => t.complete i { outcome := e }
    | none => t) s

/-- The stop or loss step (R178): entry to OFF with outcome STOPPED, or to SUSPENDED with LINK_LOST. -/
def State.linkDown (s : State) (target : LinkState) (o : Ending) : State :=
  let t := (s.abandonFrame.endLinkSlots s.abandonedSlot o).mapStations Station.linkDown
  { t with link := target, linkCause := true }

/-- Link loss: the stop or loss step into SUSPENDED with LINK_LOST (R181, R182). -/
def State.linkLoss (s : State) : State := s.linkDown .suspended .linkLost

/-- Link stop: the stop or loss step into OFF with STOPPED (R176, R177). -/
def State.linkStopped (s : State) : State := s.linkDown .off .stopped

/-- A link state in which frames may be in flight: STARTING, RUNNING or STOPPING (R52, R182). -/
def LinkState.isUp : LinkState → Bool
  | .starting => true
  | .running => true
  | .stopping => true
  | .off => false
  | .suspended => false

end Sys2Proof.Machine
end

