-- ==== Sys2Proof/Machine/Report.lean ====
section
/-! DEFINITION. The end of the frame in flight: its outcome's class, and the one step of its report to the slot table, the
station table and the link (R58, R101, R135). -/

namespace Sys2Proof.Machine

/-- The outcome of the frame in flight, with its class (3.6). -/
inductive FrameOutcome where
  | silent
  | garbled
  | violation
  | valid (r : Reply)
deriving DecidableEq, Repr

/-- The slot that takes the report of a frame (R101): the slot the frame names, while its in-flight flag is set and it still
offers that frame, so that it is QUEUED for an OPEN, OPEN for a SEND, PULL or FINISH, ABORTING for an ABORT. -/
def State.slotTaking (s : State) (f : Frame) : Option SlotId :=
  match f.slot with
  | some i =>
    let x := s.slot i
    if x.inFlight && decide (x.state ≠ .parked) && decide (x.nextFrame = some (f.kind, f.index)) then some i
    else none
  | none => none

/-- The frame in flight becomes absent and its slot's in-flight flag is cleared (R52); the received frame of a reply has ended
(R46); `gap` says whether the inter-frame gap has passed at that moment (R47). -/
def State.endFrame (s : State) (f : Frame) (gap : Bool) : State :=
  let t := { s with frame := none, gapPassed := gap, receiver := .waiting }
  match f.slot with
  | some i => t.modSlot i fun x => { x with inFlight := false }
  | none => t

/-- The statistics of a reported outcome (R61). -/
def Stats.countOutcome (c : Stats) : FrameOutcome → Stats
  | .silent => { c with failedReplies := c.failedReplies + 1 }
  | .garbled => { c with failedReplies := c.failedReplies + 1 }
  | .violation => c
  | .valid .wait => { c with validReplies := c.validReplies + 1, waitReplies := c.waitReplies + 1 }
  | .valid _ => { c with validReplies := c.validReplies + 1 }

/-- The report of a SYNC, taken by the station in the state it holds (R68, R69, R71). -/
def State.reportSync (s : State) (st : StationId) (o : FrameOutcome) : State :=
  match (s.station st).state, o with
  | .probing, .valid (.present d) => s.probeAnswered st d.toNat
  | .probing, _ => s.probeFailed st
  | .withdrawing, .valid _ => s.finishWithdrawal st
  | .withdrawing, _ => s.withdrawFailed st
  | .disabled, _ => s
  | .online, _ => s
  | .absent, _ => s
  | .faulty, _ => s

/-- A valid READY sets the ready flag of the slot its tag names, at an ONLINE station (R128). -/
def State.takeReady (s : State) (st : StationId) (tag : SlotId) : State :=
  if (s.station st).state = .online then s.modSlot tag fun x => { x with ready := true } else s

/-- The report of a POLL to the station table (R128, R76). -/
def State.reportPoll (s : State) (st : StationId) (o : FrameOutcome) : State :=
  match o with
  | .valid r =>
    let t := s.clearFailures st
    (match r with
      | .ready tag => t.takeReady st tag
      | _ => t).restartPollTimer st
  | _ =>
    let t := s.countFailure st
    if t.faultReached st then t.faultStep st id else t.restartPollTimer st

/-- A failed outcome of a frame that serves a slot (R72, R135): the station counts first; at the threshold the fault step takes
the place of the slot's own rule. -/
def State.reportFailure (s : State) (f : Frame) (tk : Option SlotId) (violation : Bool) : State :=
  let t := s.countFailure f.station
  if t.faultReached f.station then
    t.faultStep f.station fun u =>
      match tk with
      | some i => u.completeCause i f.kind violation
      | none => u
  else match tk with
    | some i => t.slotFailure i f violation
    | none => t

/-- A valid reply to a frame that serves a slot (R72, R75, R101). -/
def State.reportValid (s : State) (f : Frame) (tk : Option SlotId) (r : Reply) : State :=
  let t := s.clearFailures f.station
  let u := if r = .wait then t.startBackoff f.station else t
  match tk with
  | some i => u.slotValid i f r
  | none => u

/-- The report to the slot table and the station table (R58). -/
def State.reportTables (s : State) (f : Frame) (tk : Option SlotId) (o : FrameOutcome) : State :=
  match f.kind, o with
  | .sync, _ => s.reportSync f.station o
  | .poll, _ => s.reportPoll f.station o
  | _, .valid r => s.reportValid f tk r
  | _, .violation => s.reportFailure f tk true
  | _, .silent => s.reportFailure f tk false
  | _, .garbled => s.reportFailure f tk false

/-- The outcome counts as a silent timeout: silent, and not of a SYNC (R180). -/
def countsSilent (kind : FrameKind) (o : FrameOutcome) : Bool := decide (o = .silent) && decide (kind ≠ .sync)

/-- The consecutive silent count after a reported outcome (R180). -/
def nextSilentCount (n : Nat) (kind : FrameKind) (o : FrameOutcome) : Nat :=
  if o = .silent then (if kind = .sync then n else n + 1) else 0

/-- The link's part of a report, after the tables have taken it: a loss by the silent count in RUNNING or STOPPING (R181), the
end of STOPPING (R177), and after a SYNC the passage from STARTING to RUNNING (R175). -/
def State.reportLink (s : State) (kind : FrameKind) (o : FrameOutcome) : State :=
  if countsSilent kind o ∧ s.cfg.linkLossThreshold ≤ s.silentCount ∧ (s.link = .running ∨ s.link = .stopping) then
    s.linkLoss
  else if s.link = .stopping then s.linkStopped
  else if kind = .sync then s.enterRunningIfProbed
  else s

/-- The whole step of a report (R58, R96): the frame ends, the outcome is counted in the statistics, the tables take it, the
silent count changes, the link follows, and the records it appended are coalesced. -/
def State.report (s : State) (f : Frame) (gap : Bool) (o : FrameOutcome) : State :=
  let ended := s.endFrame f gap
  let counted := { ended with stats := ended.stats.countOutcome o }
  let told := counted.reportTables f (s.slotTaking f) o
  let silent := { told with silentCount := nextSilentCount told.silentCount f.kind o }
  (silent.reportLink f.kind o).announceSince s

/-- A received frame ends while no frame is in AWAITING or RECEIVING: it is a late reply, which is counted and delays the idle
condition until the gap from its last byte has passed (R59, R61, R47). -/
def State.countLate (s : State) : State :=
  { s with
    gapPassed := false
    receiver := .waiting
    stats := { s.stats with lateReplies := s.stats.lateReplies + 1 } }

/-- A received frame is taken with an outcome that depends on the frame in flight. With the frame in flight RECEIVING it is the
reply, and the outcome is reported (R58); with none in flight it is a late reply (R59); while a frame is SENDING the
receiver ignores the line (R42), and while it is AWAITING no reply has begun (R53), so no reply is taken. -/
def State.takeReceived (s : State) (o : Frame → FrameOutcome) : State :=
  match s.frame with
  | none => s.countLate
  | some f =>
    match f.phase with
    | .receiving => s.report f false (o f)
    | .sending => s
    | .awaiting => s

/-- A well-formed reply under the tag and index of the frame in flight is taken: valid, or a violation where it fails a check
of R57. -/
def State.takeReply (s : State) (r : Reply) : State :=
  s.takeReceived fun f => if s.replyValid f r then .valid r else .violation

/-- At a silent timeout the gap from the frame's last bit has passed when it has ended in AWAITING, or when the reply timeout that
the timer was started with is at least 4 byte-times, no byte having been received since (R47). -/
def State.gapAtTimeout (s : State) (steps : Nat) : Bool :=
  s.gapPassed || decide (s.lineRate.gapClocks ≤ steps * Config.replyStepClocks)

end Sys2Proof.Machine
end

