-- ==== Sys2Proof/Machine/SlotCommands.lean ====
section
/-! DEFINITION. The host commands that concern slots: CLAIM, SELECT, POST, DROP, CANCEL, POP, RELEASE (Chapters 1, 2, 8, 9). -/

namespace Sys2Proof.Machine

/-- A slot command with its operand: BAD_OPERAND for 16 and above, else the command's own rule (R5). -/
def State.withSlot (s : State) (operand : Byte) (rule : SlotId → State) : State :=
  match slotOperand operand with
  | some i => rule i
  | none => s.answer .badOperand

/-- The slot numbers in ascending order (R8). -/
def slotOrder : List SlotId := List.finRange 16

/-- CLAIM: the lowest-numbered FREE slot becomes CLAIMED with the default descriptor; NO_SLOT when none is FREE (R8). -/
def execClaim (s : State) : Host.Outcome State Fault Refusal :=
  match slotOrder.find? fun i => decide ((s.slot i).state = .free) with
  | some i =>
    .next ((s.modSlot i fun x => { x with state := .claimed, desc := Descriptor.claimed }).answerSlot i)
  | none => .next (s.answer .noSlot)

/-- SELECT: the operand becomes the selected slot and its read cursor 0, in every slot state (R6). -/
def execSelect (operand : Byte) (s : State) : Host.Outcome State Fault Refusal :=
  .next <| s.withSlot operand fun i =>
    (({ s with selected := i }).modSlot i fun x => { x with readCursor := 0 }).answer .done

/-- POST of a slot whose checks of R14 pass, by the state of its station (R15, R16). -/
def State.postToStation (s : State) (i : SlotId) : State :=
  let atOnce (o : Ending) : State :=
    (((s.modSlot i fun x => x.startProgress).complete i { outcome := o }).announceSince s).answer .done
  let queued : State := ((s.enqueueSlot i).answer .done).dispatch
  match s.stationStateOf (s.slot i) with
  | some .disabled => s.answer .stationDisabled
  | some .absent => atOnce .noStation
  | some .faulty => atOnce .stationFault
  | some .probing => queued
  | some .online => queued
  | some .withdrawing => queued
  | none => s.answer .badDescriptor

/-- POST (R13 to R16): WRONG_STATE unless CLAIMED, then the checks of R14, then those of R15. -/
def execPost (operand : Byte) (s : State) : Host.Outcome State Fault Refusal :=
  .next <| s.withSlot operand fun i =>
    if (s.slot i).state = .claimed then
      match postRefusal (s.slot i) s.freeList.length with
      | some code => s.answer code
      | none => s.postToStation i
    else s.answer .wrongState

/-- DROP: a CLAIMED slot is FREE again and its blocks return (R12, R40). -/
def execDrop (operand : Byte) (s : State) : Host.Outcome State Fault Refusal :=
  .next <| s.withSlot operand fun i =>
    if (s.slot i).state = .claimed then (s.freeSlot i).answer .done else s.answer .wrongState

/-- RELEASE: a SETTLED slot is FREE again and the blocks still on its chain return (R23, R40). -/
def execRelease (operand : Byte) (s : State) : Host.Outcome State Fault Refusal :=
  .next <| s.withSlot operand fun i =>
    if (s.slot i).state = .settled then (s.freeSlot i).answer .done else s.answer .wrongState

/-- CANCEL: a stop request with outcome CANCELLED for a QUEUED, OPEN or PARKED slot that holds none (R143). -/
def execCancel (operand : Byte) (s : State) : Host.Outcome State Fault Refusal :=
  .next <| s.withSlot operand fun i =>
    if (s.slot i).takesStop then
      (((s.takeStop i .cancelled).announceSince s).answer .done).dispatch
    else s.answer .wrongState

/-- POP: the head record leaves and its slot becomes SETTLED; EMPTY for an empty queue (R161, R22). -/
def execPop (s : State) : Host.Outcome State Fault Refusal :=
  match s.queue with
  | [] => .next (s.answer .empty)
  | head :: rest => .next ((s.popHead head rest).answerSlot head.slot)

end Sys2Proof.Machine
end

