-- ==== Sys2Proof/Machine/StationCommands.lean ====
section
/-! DEFINITION. ENABLE_STATION and DISABLE_STATION (4.3, 4.5). -/

namespace Sys2Proof.Machine

/-- A station command with its operand: BAD_OPERAND for 0 and for 9 and above, else the command's own rule (4.3, R189). -/
def State.withStation (s : State) (operand : Byte) (rule : StationId → State) : State :=
  match stationOperand operand with
  | some st => rule st
  | none => s.answer .badOperand

/-- ENABLE_STATION: a DISABLED, ABSENT or FAULTY station becomes PROBING; its SYNC is owed at once (R66, R81). -/
def execEnableStation (operand : Byte) (s : State) : Host.Outcome State Fault Refusal :=
  .next <| s.withStation operand fun st =>
    let enabled : State := ((s.modStation st fun r => r.enable).answer .done).dispatch
    match (s.station st).state with
    | .disabled => enabled
    | .absent => enabled
    | .faulty => enabled
    | .probing => s.answer .wrongState
    | .online => s.answer .wrongState
    | .withdrawing => s.answer .wrongState

/-- DISABLE_STATION: DISABLED at once from PROBING, ABSENT or FAULTY, which may let STARTING pass to RUNNING (R67, R175); a
withdrawal from ONLINE (R70). -/
def execDisableStation (operand : Byte) (s : State) : Host.Outcome State Fault Refusal :=
  .next <| s.withStation operand fun st =>
    let atOnce : State := (s.disableAtOnce st).announceSince s
    match (s.station st).state with
    | .probing => (atOnce.enterRunningIfProbed.answer .done).dispatch
    | .absent => (atOnce.answer .done).dispatch
    | .faulty => (atOnce.answer .done).dispatch
    | .online => (((s.startWithdrawal st).announceSince s).answer .done).dispatch
    | .disabled => s.answer .wrongState
    | .withdrawing => s.answer .wrongState

end Sys2Proof.Machine
end

