-- ==== Sys2Proof/Machine/LinkCommands.lean ====
section
/-! DEFINITION. LINK_START, LINK_STOP and LINK_RESUME (Chapter 10), and the two events of the LINE_FAULT input (R182). -/

namespace Sys2Proof.Machine

/-- LINK_START: taken with the link OFF and LINE_FAULT negated (R174). -/
def execLinkStart (s : State) : Host.Outcome State Fault Refusal :=
  if s.link = .off ∧ s.lineFault = false then .next ((s.enterStarting.answer .done).dispatch)
  else .next (s.answer .linkState)

/-- LINK_RESUME: taken with the link SUSPENDED and LINE_FAULT negated (R183). -/
def execLinkResume (s : State) : Host.Outcome State Fault Refusal :=
  if s.link = .suspended ∧ s.lineFault = false then .next ((s.enterStarting.answer .done).dispatch)
  else .next (s.answer .linkState)

/-- LINK_STOP from STARTING or RUNNING: STOPPING while a frame is in flight, OFF at once when none is (R176, R177). -/
def State.stopLink (s : State) : State :=
  if s.frame = none then (s.linkStopped).announceSince s else { s with link := .stopping }

/-- LINK_STOP (R176). -/
def execLinkStop (s : State) : Host.Outcome State Fault Refusal :=
  match s.link with
  | .starting => .next (s.stopLink.answer .done)
  | .running => .next (s.stopLink.answer .done)
  | .suspended => .next ((s.linkStopped.announceSince s).answer .done)
  | .off => .next (s.answer .linkState)
  | .stopping => .next (s.answer .linkState)

/-- LINE_FAULT_ASSERTED: taken as asserted; a link loss while the link is STARTING, RUNNING or STOPPING (R182). -/
def execLineFaultAsserted (s : State) : Host.Outcome State Fault Refusal :=
  let t := { s with lineFault := true }
  if s.link.isUp then .next (t.linkLoss.announceSince s) else .next t

/-- LINE_FAULT_NEGATED: taken as negated, which allows LINK_START and LINK_RESUME (R182). -/
def execLineFaultNegated (s : State) : Host.Outcome State Fault Refusal :=
  .next { s with lineFault := false }

end Sys2Proof.Machine
end

