-- ==== Sys2Proof/Machine/HostWrites.lean ====
section
/-! DEFINITION. The other host accesses that change state: descriptor, length and data window writes, the data window read,
CAUSE, MASK and configuration writes, ignored writes, snapshots, unknown commands (Chapters 1, 2, 9, 11). -/

namespace Sys2Proof.Machine

/-- DESCRIPTOR_WRITE: the fields of a CLAIMED selected slot take the written values, else WRONG_STATE (R10, R195). -/
def execDescriptorWrite (reg : DescReg) (data : Word) (s : State) : Host.Outcome State Fault Refusal :=
  if s.selectedSlot.state = .claimed then
    .next (s.modSlot s.selected fun x => { x with desc := x.desc.writeReg reg data })
  else .next (s.flagStatus .wrongState)

/-- LENGTH_WRITE: the length of a CLAIMED selected slot with fill cursor 0; with data written it is ignored, the fill error flag
is set and FILL_ERROR is shown (R11). -/
def execLengthWrite (data : Word) (s : State) : Host.Outcome State Fault Refusal :=
  if s.selectedSlot.state = .claimed then
    if s.selectedSlot.fillCursor = 0 then
      .next (s.modSlot s.selected fun x => { x with desc := x.desc.writeLength data })
    else
      .next ((s.modSlot s.selected fun x => { x with fillError := true }).flagStatus .fillError)
  else .next (s.flagStatus .wrongState)

/-- The bytes of a word, lowest offset first (R29, R195). -/
def wordBytes (w : Word) : List Byte :=
  [w.extractLsb' 0 8, w.extractLsb' 8 8, w.extractLsb' 16 8, w.extractLsb' 24 8]

/-- The word that four bytes make, the first in D0 to D7 (R29, R195). -/
def wordOfBytes (b0 b1 b2 b3 : Byte) : Word :=
  b0.setWidth 32 ||| (b1.setWidth 32 <<< 8) ||| (b2.setWidth 32 <<< 16) ||| (b3.setWidth 32 <<< 24)

/-- A filling write is dropped: overrun, or a new block is needed and the free list is empty (R32). -/
def fillDropped (x : Slot) (freeList : List BlockId) : Bool :=
  decide (x.desc.length.toNat ≤ x.fillCursor) || decide (Config.maxLength ≤ x.fillCursor) ||
    (decide (x.fillCursor % Config.blockBytes = 0) && freeList.isEmpty)

/-- A filling write is stored (R31): a block is taken at a block boundary, the bytes below the length are placed at the fill
cursor, and the cursor moves on by 4. -/
def State.storeFill (s : State) (i : SlotId) (data : Word) : State :=
  let c := (s.slot i).fillCursor
  let t := if c % Config.blockBytes = 0 then s.takeBlock i else s
  let bytes := (wordBytes data).take ((s.slot i).desc.length.toNat - c)
  ({ t with mem := chainPutAll t.mem (t.slot i).chain c bytes }).modSlot i fun x =>
    { x with fillCursor := c + 4 }

/-- DATA_WINDOW_WRITE: ignored with WRONG_STATE unless the selected slot is a CLAIMED STORE (R30), else dropped with FILL_ERROR
(R32) or stored (R31). -/
def execDataWindowWrite (data : Word) (s : State) : Host.Outcome State Fault Refusal :=
  let x := s.selectedSlot
  if x.state = .claimed ∧ x.desc.kind = .store then
    if fillDropped x s.freeList then
      .next ((s.modSlot s.selected fun y => { y with fillError := true }).flagStatus .fillError)
    else .next (s.storeFill s.selected data)
  else .next (s.flagStatus .wrongState)

/-- The byte a drain reads at an offset: the chain's byte below bytes moved, 0 at or above it (R37). -/
def drainByte (m : Memory) (x : Slot) (off : Nat) : Byte :=
  if off < x.bytesMoved then chainByte m x.chain off else 0

/-- The word a drain reads at the read cursor (R37, R29). -/
def drainWord (m : Memory) (x : Slot) : Word :=
  wordOfBytes (drainByte m x x.readCursor) (drainByte m x (x.readCursor + 1))
    (drainByte m x (x.readCursor + 2)) (drainByte m x (x.readCursor + 3))

/-- The data window is readable: the slot is a COMPLETE or SETTLED FETCH (R37, R38). -/
def Slot.drainable (x : Slot) : Bool :=
  (decide (x.state = .complete) || decide (x.state = .settled)) && decide (x.desc.kind = .fetch)

/-- The word that a read of DWIN returns (R37, R38). -/
def State.dwinWord (s : State) : Word :=
  if s.selectedSlot.drainable && decide (s.selectedSlot.readCursor < s.selectedSlot.bytesMoved) then
    drainWord s.mem s.selectedSlot
  else 0

/-- DATA_WINDOW_READ: the word at the read cursor of a COMPLETE or SETTLED FETCH, and the cursor moves on while it is below bytes
moved; otherwise 0 and no move (R37, R38). The word returned on the data lines is held in `readData`. -/
def execDataWindowRead (s : State) : Host.Outcome State Fault Refusal :=
  let t := { s with readData := s.dwinWord }
  if s.selectedSlot.drainable && decide (s.selectedSlot.readCursor < s.selectedSlot.bytesMoved) then
    .next (t.modSlot s.selected fun x => { x with readCursor := x.readCursor + 4 })
  else .next t

/-- CAUSE_WRITE (R192). -/
def execCauseWrite (data : Word) (s : State) : Host.Outcome State Fault Refusal := .next (s.clearCauses data)

/-- MASK_WRITE: all three mask bits are replaced (R170, R192). -/
def execMaskWrite (data : Word) (s : State) : Host.Outcome State Fault Refusal :=
  .next { s with mask := CauseMask.ofWord data }

/-- CFG0_WRITE (R191). -/
def execCfg0Write (data : Word) (s : State) : Host.Outcome State Fault Refusal :=
  .next { s with cfg := s.cfg.writeCfg0 data }

/-- CFG1_WRITE, which is a write of the completion threshold too (R191, R166). -/
def execCfg1Write (data : Word) (s : State) : Host.Outcome State Fault Refusal :=
  .next ({ s with cfg := s.cfg.writeCfg1 data }).thresholdWritten

/-- IGNORED_WRITE: a write to word 25 or to a read-only word changes no state (R188). -/
def execIgnoredWrite (word : BitVec 5) (data : Word) (s : State) : Host.Outcome State Fault Refusal :=
  if (Instr.ignoredWrite word data).wellFormed then .next s else .refused .notACommand

/-- SNAPSHOT: the six counters are copied in one step (R193). -/
def execSnapshot (s : State) : Host.Outcome State Fault Refusal :=
  .next (({ s with snap := s.stats }).answer .done)

/-- SNAPSHOT_CLEAR: the same copy, and the six counters are set to 0 (R193). -/
def execSnapshotClear (s : State) : Host.Outcome State Fault Refusal :=
  .next (({ s with snap := s.stats, stats := Stats.zero }).answer .done)

/-- UNKNOWN_COMMAND: a code not in the command table is refused with UNKNOWN_COMMAND (R189). -/
def execUnknownCommand (code : Byte) (s : State) : Host.Outcome State Fault Refusal :=
  if (Instr.unknownCommand code).wellFormed then .next (s.answer .unknownCommand)
  else .refused .notACommand

end Sys2Proof.Machine
end

