-- ==== Sys2Proof/Machine/Resets.lean ====
section
/-! DEFINITION. Power-on reset and command reset (R186, R196). -/

namespace Sys2Proof.Machine

/-- The state a power-on reset leaves: every piece of state at its power-on value (R186); the waiting commands are the
model's own and stay. -/
def State.powerOn (s : State) : State := { State.reset with pending := s.pending }

/-- The state a command reset leaves (R196): as a power-on reset, but the configuration values, the cause mask and LINE_FAULT as
taken are kept (R182, R184). The word last returned on the data lines is no state of the part and is kept too. -/
def State.commandReset (s : State) : State :=
  { State.reset with
    cfg := s.cfg
    mask := s.mask
    lineFault := s.lineFault
    takenRate := s.takenRate
    readData := s.readData
    pending := s.pending }

/-- POWER_ON_RESET (R186). -/
def execPowerOnReset (s : State) : Host.Outcome State Fault Refusal := .next s.powerOn

/-- SOFT_RESET (R196). -/
def execSoftReset (s : State) : Host.Outcome State Fault Refusal := .next s.commandReset

end Sys2Proof.Machine
end

