-- ==== Sys2Proof/Machine/LineEvents.lean ====
section
/-! DEFINITION. The events on the line and of the timers: gap end, frame sent, reply begins, timeouts, garbled, violating and late
replies, and the expiries. An event whose own condition does not hold does not take place and changes nothing
(assumption log 2). -/

namespace Sys2Proof.Machine

/-! ## The line (Chapter 3) -/

/-- The gap from the last bit may end: the LX16 drives no bit, and no received frame is open that a byte has been received of, since
its bytes are less than 3 byte-times apart and the stop bit of each moves the end of the gap (R46, R47). -/
def State.gapMayEnd (s : State) : Bool := !s.lineDE && decide (s.receiver ≠ .frameOpen)

/-- INTER_FRAME_GAP_END: with no frame in flight the line becomes idle to the scheduler, which may choose at once (R47, R80). The
gap from the last bit of a controller frame may end while the frame is in flight too, in AWAITING or within the first byte of
its reply; the line is idle once that frame is absent (R47; assumption log 7). -/
def execInterFrameGapEnd (s : State) : Host.Outcome State Fault Refusal :=
  if s.gapMayEnd then .next ({ s with gapPassed := true }).dispatch else .next s

/-- FRAME_SENT: the frame in SENDING enters AWAITING and its reply timer starts with the configured reply timeout
(R52, R53). -/
def execFrameSent (s : State) : Host.Outcome State Fault Refusal :=
  match s.frame with
  | some f =>
    if f.phase = .sending then
      .next { s with frame := some { f with phase := .awaiting, replyTimer := some s.cfg.replyTimeout } }
    else .next s
  | none => .next s

/-- The stop bit of the first byte of a received frame has come, where that byte was arriving: the end of the gap moves to 4
byte-times after it, and so after every later byte of the frame (R46, R47). -/
def State.firstByteReceived (s : State) : State :=
  match s.receiver with
  | .waiting => s
  | .firstByte => { s with gapPassed := false, receiver := .frameOpen }
  | .frameOpen => s

/-- A start bit is accepted: with no received frame open it begins one (R46), and the gap from the last bit goes on until the stop
bit of that byte (R47). Otherwise it continues the open frame, of which a byte has then been received. -/
def State.startByte (s : State) : State :=
  match s.receiver with
  | .waiting => { s with receiver := .firstByte }
  | .firstByte => s.firstByteReceived
  | .frameOpen => s

/-- REPLY_BEGINS, an accepted start bit: in AWAITING a reply begins, the reply timer stops and the frame enters RECEIVING (R53).
In RECEIVING the start bit is that of a further byte of the reply (R46). With no frame in flight it is that of a byte of a late
reply, whose stop bits move the end of the gap (R47, R59; assumption log 7). In SENDING the receiver ignores the line (R42). -/
def execReplyBegins (s : State) : Host.Outcome State Fault Refusal :=
  match s.frame with
  | none => .next s.startByte
  | some f =>
    match f.phase with
    | .sending => .next s
    | .awaiting =>
      .next { s with frame := some { f with phase := .receiving, replyTimer := none }, receiver := .firstByte }
    | .receiving => .next s.startByte

/-- REPLY_TIMEOUT: in AWAITING the reply timer runs out, the outcome is silent and is reported (R53, R58); where the gap has
passed the next frame is chosen in the same step (R47, R96). -/
def execReplyTimeout (s : State) : Host.Outcome State Fault Refusal :=
  match s.frame with
  | some f =>
    match f.phase, f.replyTimer with
    | .awaiting, some steps => .next (s.report f (s.gapAtTimeout steps) .silent).dispatch
    | _, _ => .next s
  | none => .next s

/-- GARBLED_REPLY: a reply is taken that fails a check of R56. -/
def execGarbledReply (s : State) : Host.Outcome State Fault Refusal := .next (s.takeReceived fun _ => .garbled)

/-- VIOLATION_REPLY: a reply is taken that is well formed and fails a check of R57. -/
def execViolationReply (s : State) : Host.Outcome State Fault Refusal :=
  .next (s.takeReceived fun _ => .violation)

/-- LATE_REPLY: a received frame that arrived with no frame in AWAITING or RECEIVING ends (R59, R61). -/
def execLateReply (s : State) : Host.Outcome State Fault Refusal :=
  match s.frame with
  | none => .next s.countLate
  | some f => if f.phase = .sending then .next s.countLate else .next s

/-! ## Timers -/

/-- HOLDOFF_EXPIRY: the running holdoff timer expires; it stops, and with an unannounced count of 1 or more the cause is raised
(R165). -/
def execHoldoffExpiry (s : State) : Host.Outcome State Fault Refusal :=
  match s.holdoffTimer with
  | some _ =>
    if 1 ≤ s.unannounced then .next s.raiseCompletion else .next { s with holdoffTimer := none }
  | none => .next s

/-- BACKOFF_EXPIRY: a station's running backoff timer stops, and its frames are offered again from that moment (R75, R81). -/
def execBackoffExpiry (station : BitVec 4) (s : State) : Host.Outcome State Fault Refusal :=
  match stationOfAddress station with
  | some st =>
    if (s.station st).backoff.isSome then
      .next (s.modStation st fun r => { r with backoff := none }).dispatch
    else .next s
  | none => .fault .noSuchStation

/-- A poll timer runs. -/
def PollTimer.isRunning : PollTimer → Bool
  | .running _ => true
  | .stopped => false
  | .expired => false
  | .held => false

/-- POLL_TIMER_EXPIRY: a station's running poll timer becomes expired and a POLL is due (R76, R81). -/
def execPollTimerExpiry (station : BitVec 4) (s : State) : Host.Outcome State Fault Refusal :=
  match stationOfAddress station with
  | some st =>
    if (s.station st).pollTimer.isRunning then
      .next (s.modStation st fun r => { r with pollTimer := .expired }).dispatch
    else .next s
  | none => .fault .noSuchStation

/-- LIFETIME_EXPIRY: a slot's running lifetime timer stops and is taken as a stop request with outcome TIMED_OUT, which changes
nothing more for a slot in ABORTING or one that holds a stop request (R142). -/
def execLifetimeExpiry (slot : SlotId) (s : State) : Host.Outcome State Fault Refusal :=
  match (s.slot slot).lifetimeTimer with
  | some _ =>
    let t := s.modSlot slot fun x => { x with lifetimeTimer := none }
    if (t.slot slot).takesStop then
      .next ((t.takeStop slot .timedOut).announceSince s).dispatch
    else .next t
  | none => .next s

end Sys2Proof.Machine
end

