-- ==== Sys2Proof/Machine/Replies.lean ====
section
/-! DEFINITION. The station frames as they are taken, one meaning a reply kind (R54, Chapters 4, 6, 7, 8). Each stands for a
well-formed reply of that kind under the tag and index of the frame in flight. -/

namespace Sys2Proof.Machine

/-- PRESENT (R68, R71). -/
def execPresent (depth : Byte) (s : State) : Host.Outcome State Fault Refusal :=
  .next (s.takeReply (.present depth))

/-- ACCEPT (R104). -/
def execAccept (s : State) : Host.Outcome State Fault Refusal := .next (s.takeReply .accept)

/-- REFUSE (R105). -/
def execRefuse (reason : Byte) (s : State) : Host.Outcome State Fault Refusal :=
  .next (s.takeReply (.refuse reason))

/-- TAKEN (R108). -/
def execTaken (s : State) : Host.Outcome State Fault Refusal := .next (s.takeReply .taken)

/-- GIVE (R111). A payload of more than 64 bytes is no well-formed frame: it is garbled by check 5 of R56. -/
def execGive (payload : List Byte) (s : State) : Host.Outcome State Fault Refusal :=
  if payload.length ≤ Config.segmentBytes then .next (s.takeReply (.give payload))
  else .next (s.takeReceived fun _ => .garbled)

/-- RESULT (R114). -/
def execResult (status : Byte) (s : State) : Host.Outcome State Fault Refusal :=
  .next (s.takeReply (.result status))

/-- WAIT (R140). -/
def execWait (s : State) : Host.Outcome State Fault Refusal := .next (s.takeReply .wait)

/-- PARK (R116). -/
def execPark (s : State) : Host.Outcome State Fault Refusal := .next (s.takeReply .park)

/-- NOTHING (R128). -/
def execNothing (s : State) : Host.Outcome State Fault Refusal := .next (s.takeReply .nothing)

/-- READY (R128). -/
def execReady (tag : SlotId) (s : State) : Host.Outcome State Fault Refusal :=
  .next (s.takeReply (.ready tag))

/-- DONE (R151). -/
def execDone (s : State) : Host.Outcome State Fault Refusal := .next (s.takeReply .done)

end Sys2Proof.Machine
end

