-- ==== Sys2Proof/Machine/Window.lean ====
section
/-! DEFINITION. What the host reads: the 32 words of the window and their layouts (R187, R188, R194). Reads change no state but
for DWIN's cursor, which is the command DATA_WINDOW_READ; the word a read returns is a function of the state. -/

namespace Sys2Proof.Machine

/-- A value placed in a field of a word: bits `lo` to `lo + width - 1` (R194). -/
def fieldAt (lo width v : Nat) : Word := BitVec.ofNat 32 ((v % 2 ^ width) * 2 ^ lo)

/-- One bit placed in a word. -/
def bitAt (lo : Nat) (b : Bool) : Word := fieldAt lo 1 b.toNat

/-- Status codes (R190). -/
def Status.code : Status → Nat
  | .done => 0
  | .noSlot => 1
  | .noSpace => 2
  | .badDescriptor => 3
  | .fillError => 4
  | .wrongState => 5
  | .badOperand => 6
  | .stationDisabled => 7
  | .linkState => 8
  | .empty => 9
  | .unknownCommand => 10

/-- Slot state codes (R194). -/
def SlotState.code : SlotState → Nat
  | .free => 0
  | .claimed => 1
  | .queued => 2
  | .opened => 3
  | .parked => 4
  | .aborting => 5
  | .complete => 6
  | .settled => 7

/-- Outcome codes (R194). -/
def Ending.code : Ending → Nat
  | .ok => 1
  | .stationError => 2
  | .refused => 3
  | .linkError => 4
  | .busyLimit => 5
  | .timedOut => 6
  | .cancelled => 7
  | .protocol => 8
  | .stationFault => 9
  | .noStation => 10
  | .withdrawn => 11
  | .linkLost => 12
  | .stopped => 13

/-- The code of an optional outcome, 0 for absent (R194). -/
def outcomeCode : Option Ending → Nat
  | some o => o.code
  | none => 0

/-- Station state codes (R194). -/
def StationState.code : StationState → Nat
  | .disabled => 0
  | .probing => 1
  | .online => 2
  | .absent => 3
  | .faulty => 4
  | .withdrawing => 5

/-- Link state codes (R194). -/
def LinkState.code : LinkState → Nat
  | .off => 0
  | .starting => 1
  | .running => 2
  | .stopping => 3
  | .suspended => 4

/-- Class codes (R194). -/
def Cls.code : Cls → Nat
  | .normal => 0
  | .urgent => 1

/-- Bit rate codes (R191). -/
def BitRate.code : BitRate → Nat
  | .kbit500 => 0
  | .mbit1 => 1
  | .mbit2 => 2
  | .mbit4 => 3

/-- A slot number read through the window, 0 where it is absent (R195). -/
def slotNumber : Option SlotId → Nat
  | some i => i.val
  | none => 0

/-- A station status read through the window, 0 where it is absent (R195). -/
def statusValue : Option Byte → Nat
  | some v => v.toNat
  | none => 0

/-- CMDST (R190, R194). -/
def State.readCmdst (s : State) : Word :=
  fieldAt 0 4 s.status.code ||| fieldAt 8 4 (slotNumber s.statusSlot) ||| bitAt 12 s.statusSlot.isSome |||
    fieldAt 16 4 s.selected.val

/-- DESC0 of a descriptor (R194). -/
def Descriptor.word0 (d : Descriptor) : Word :=
  fieldAt 0 4 d.station.toNat ||| fieldAt 4 2 d.kind.code ||| fieldAt 6 1 d.cls.code |||
    fieldAt 8 3 d.retryAllowance.toNat ||| fieldAt 12 4 d.busyAllowance.toNat |||
    fieldAt 16 8 d.function.toNat

/-- DESC1 of a descriptor (R194). -/
def Descriptor.word1 (d : Descriptor) : Word :=
  fieldAt 0 16 d.selector.toNat ||| fieldAt 16 12 d.lifetime.toNat

/-- DESC2 of a descriptor (R194). -/
def Descriptor.word2 (d : Descriptor) : Word := fieldAt 0 10 d.length.toNat

/-- SLST0 of a slot (R7, R194). -/
def Slot.status0 (x : Slot) : Word :=
  fieldAt 0 3 x.state.code ||| bitAt 3 x.fillError ||| fieldAt 4 5 x.chain.length |||
    fieldAt 16 10 x.fillCursor

/-- SLST1 of a slot (R7, R194). -/
def Slot.status1 (x : Slot) : Word :=
  fieldAt 0 10 x.bytesMoved ||| fieldAt 12 4 (outcomeCode x.outcome) ||| bitAt 16 x.short |||
    bitAt 17 x.lateStop ||| bitAt 18 x.abortUnconfirmed ||| bitAt 19 x.stationStatus.isSome |||
    fieldAt 24 8 (statusValue x.stationStatus)

/-- CWIN0 of the head record, record present set (R160, R194). -/
def Record.window0 (r : Record) : Word :=
  fieldAt 0 8 r.seq.toNat ||| fieldAt 8 4 r.slot.val ||| fieldAt 12 4 r.station.toNat |||
    fieldAt 16 2 r.kind.code ||| fieldAt 20 4 r.outcome.code ||| bitAt 31 true

/-- CWIN1 of the head record (R194). -/
def Record.window1 (r : Record) : Word :=
  fieldAt 0 10 r.bytesMoved ||| bitAt 12 r.short ||| bitAt 13 r.lateStop |||
    bitAt 14 r.abortUnconfirmed ||| bitAt 15 r.stationStatus.isSome |||
    fieldAt 16 8 (statusValue r.stationStatus)

/-- CWIN2 of the head record (R194). -/
def Record.window2 (r : Record) : Word := fieldAt 0 3 r.retriesUsed ||| fieldAt 8 8 r.busyReplies

/-- A word of the completion window: the head record's, and 0 while the queue is empty (R160). -/
def State.readHead (s : State) (view : Record → Word) : Word :=
  match s.queue with
  | head :: _ => view head
  | [] => 0

/-- QPST (R160, R194). -/
def State.readQpst (s : State) : Word :=
  fieldAt 0 5 s.queue.length ||| fieldAt 8 5 s.unannounced ||| fieldAt 16 8 s.seqCounter.toNat |||
    fieldAt 24 8 s.freeList.length

/-- The eight change flags, station 1 in bit 8 (R192, R194). -/
def State.changeBits (s : State) : Word :=
  (List.finRange 8).foldl (fun w st => w ||| bitAt (8 + st.val) (s.station st).changed) 0

/-- CAUSE, whatever the mask holds (R192, R194). -/
def State.readCause (s : State) : Word :=
  bitAt 0 s.completionCause ||| bitAt 1 s.stationCause ||| bitAt 2 s.linkCause ||| s.changeBits

/-- MASK (R194). -/
def State.readMask (s : State) : Word :=
  bitAt 0 s.mask.completion ||| bitAt 1 s.mask.station ||| bitAt 2 s.mask.link

/-- LNST (R185, R194). -/
def State.readLnst (s : State) : Word :=
  fieldAt 0 3 s.link.code ||| bitAt 4 s.lineFault ||| fieldAt 8 6 s.silentCount

/-- CFG0 as held (R191). -/
def HostConfig.word0 (c : HostConfig) : Word :=
  fieldAt 0 2 c.bitRate.code ||| fieldAt 8 8 c.replyTimeout ||| fieldAt 16 6 c.linkLossThreshold |||
    fieldAt 24 4 c.faultThreshold

/-- CFG1 as held (R191). -/
def HostConfig.word1 (c : HostConfig) : Word :=
  fieldAt 0 8 c.backoffInterval ||| fieldAt 8 8 c.pollInterval ||| fieldAt 16 5 c.completionThreshold |||
    fieldAt 24 8 c.holdoff

/-- STN1 to STN8: a station record (R79, R194, R195). -/
def Station.word (r : Station) : Word :=
  fieldAt 0 3 r.state.code ||| fieldAt 4 2 r.parkDepth ||| fieldAt 8 4 r.failures |||
    fieldAt 12 4 (slotNumber r.engaged) ||| bitAt 16 r.engaged.isSome |||
    fieldAt 20 2 r.parked.length ||| bitAt 24 r.backoff.isSome |||
    bitAt 25 (decide (r.pollTimer = .expired))

/-- What a read of one word of the window returns (R187, R188). CMD and word 25 read as 0. -/
def State.readWord (s : State) (word : BitVec 5) : Word :=
  match word.toNat with
  | 1 => s.readCmdst
  | 2 => s.selectedSlot.desc.word0
  | 3 => s.selectedSlot.desc.word1
  | 4 => s.selectedSlot.desc.word2
  | 5 => s.selectedSlot.status0
  | 6 => s.selectedSlot.status1
  | 7 => s.dwinWord
  | 8 => s.readHead Record.window0
  | 9 => s.readHead Record.window1
  | 10 => s.readHead Record.window2
  | 11 => s.readQpst
  | 12 => s.readCause
  | 13 => s.readMask
  | 14 => s.readLnst
  | 15 => s.cfg.word0
  | 16 => s.cfg.word1
  | 17 => (s.station 0).word
  | 18 => (s.station 1).word
  | 19 => (s.station 2).word
  | 20 => (s.station 3).word
  | 21 => (s.station 4).word
  | 22 => (s.station 5).word
  | 23 => (s.station 6).word
  | 24 => (s.station 7).word
  | 26 => s.snap.framesSent
  | 27 => s.snap.validReplies
  | 28 => s.snap.failedReplies
  | 29 => s.snap.lateReplies
  | 30 => s.snap.waitReplies
  | 31 => s.snap.payloadBytes
  | _ => 0

/-- A read is a command only where it changes state: a read of DWIN (R188). -/
def decodeHostRead (word : BitVec 5) : Option Instr :=
  if word.toNat = 7 then some .dataWindowRead else none

end Sys2Proof.Machine
end

