-- ==== Sys2Proof/Machine/Receiver.lean ====
section
/-! DEFINITION. From received bytes to the event the table names: byte sampling (R45), grouping into frames (R46), the checks of
R56 and R57 in their order, and so the row of the table that a received frame is. -/

namespace Sys2Proof.Machine

/-- One byte as the receiver took it: its value, and whether its stop bit sampled low (R45). -/
structure RxByte where
  value : Byte
  framingError : Bool
deriving DecidableEq, Repr

/-- A received frame: its bytes, at most 72, and whether the start bit of a 73rd ended it (R46). -/
structure RxFrame where
  bytes : List RxByte
  tooLong : Bool
deriving DecidableEq, Repr

/-- A possible start bit is accepted when the line still samples low half a bit-time after its fall (R45). -/
def startAccepted (midSample : Bool) : Bool := !midSample

/-- The byte of eight data samples and a stop sample (R45). -/
def sampleByte (data : List Bool) (stop : Bool) : RxByte := { value := byteOfBits data, framingError := !stop }

/-- The longest well-formed frame, in bytes (R46). -/
def maxFrameBytes : Nat := 72

/-- The frames that a run of received bytes makes, where no two bytes are more than 3 byte-times apart: at the start bit of each
73rd byte the frame ends too long, and the bytes that follow form a further frame (R46). `room` is how many bytes the open
frame may still take and `acc` holds its bytes, newest first. -/
def groupBytes : Nat → List RxByte → List RxByte → List RxFrame
  | _, [], [] => []
  | _, acc, [] => [{ bytes := acc.reverse, tooLong := false }]
  | 0, acc, b :: bs => { bytes := acc.reverse, tooLong := true } :: groupBytes (maxFrameBytes - 1) [b] bs
  | room + 1, acc, b :: bs => groupBytes room (b :: acc) bs

/-- The received frames of a burst of bytes between two idles of 3 byte-times (R46). -/
def framesOfBurst (bytes : List RxByte) : List RxFrame := groupBytes maxFrameBytes [] bytes

/-- A received byte with the clock periods from the end of the stop bit before it to the acceptance of its start bit (R45, R46). -/
structure TimedByte where
  idle : Nat
  byte : RxByte
deriving DecidableEq, Repr

/-- Received bytes by the idle time between them: a start bit accepted before `limit` clock periods of idle have passed continues
the burst, any other begins a further one (R46). -/
def burstsOf (limit : Nat) : List TimedByte → List (List RxByte)
  | [] => []
  | [b] => [[b.byte]]
  | b :: c :: rest =>
    if c.idle < limit then
      match burstsOf limit (c :: rest) with
      | [] => [[b.byte]]
      | burst :: more => (b.byte :: burst) :: more
    else [b.byte] :: burstsOf limit (c :: rest)

/-- The received frames that bytes make at a bit rate, ended by 3 byte-times of idle or by the start bit of a 73rd byte (R46). -/
def receivedFrames (rate : BitRate) (bytes : List TimedByte) : List RxFrame :=
  (burstsOf rate.idleClocks bytes).flatMap framesOfBurst

/-- Byte `k` of a received frame, 0 beyond its end. -/
def RxFrame.byteAt (x : RxFrame) (k : Nat) : Byte := ((x.bytes[k]?).map RxByte.value).getD 0

/-- The values of a frame's bytes. -/
def RxFrame.values (x : RxFrame) : List Byte := x.bytes.map RxByte.value

/-- The payload length field, byte 5 (R48). -/
def RxFrame.payloadLength (x : RxFrame) : Nat := (x.byteAt 5).toNat

/-- The payload of a frame whose length agrees with byte 5 (R48). -/
def RxFrame.payload (x : RxFrame) : List Byte := (x.values.drop 6).take x.payloadLength

/-- Bytes 1 to 5 + n, over which the CRC is computed (R50). -/
def RxFrame.body (x : RxFrame) : List Byte := (x.values.drop 1).take (5 + x.payloadLength)

/-- The checks of R56, in their order; the first that fails makes the reply garbled, and none makes it well formed. -/
def RxFrame.garbled (x : RxFrame) (st : StationId) : Bool :=
  decide (x.bytes.length < 8) ||
  x.bytes.any (fun b => b.framingError) ||
  decide (x.byteAt 0 ≠ opener) ||
  decide (x.byteAt 1 ≠ routeByte st true) ||
  (decide (64 < x.payloadLength) || decide (x.bytes.length ≠ 8 + x.payloadLength) || x.tooLong) ||
  decide (lowFirst (crc16 x.body) ≠ [x.byteAt (6 + x.payloadLength), x.byteAt (7 + x.payloadLength)])

/-- The tag of a frame: bits 0 to 3 of byte 3 (R48). -/
def RxFrame.tag (x : RxFrame) : Nat := (x.byteAt 3).toNat % 16

/-- The segment index of a frame: bits 4 to 6 of byte 3 (R48). -/
def RxFrame.index (x : RxFrame) : Nat := (x.byteAt 3).toNat / 16 % 8

/-- The argument of a frame, byte 4 (R48). -/
def RxFrame.argument (x : RxFrame) : Byte := x.byteAt 4

/-- The reply that a station frame's kind code and fields spell (R54); none for codes 0 and 12 to 255 (R57). -/
def RxFrame.reply (x : RxFrame) : Option Reply :=
  match (x.byteAt 2).toNat with
  | 1 => some (.present x.argument)
  | 2 => some .accept
  | 3 => some (.refuse x.argument)
  | 4 => some .taken
  | 5 => some (.give x.payload)
  | 6 => some (.result x.argument)
  | 7 => some .wait
  | 8 => some .park
  | 9 => some .nothing
  | 10 => some (.ready (Fin.ofNat 16 x.tag))
  | 11 => some .done
  | _ => none

/-- The reply kinds whose tag and index must equal those of the frame in flight (R54). -/
def Reply.echoesTag : Reply → Bool
  | .accept => true
  | .refuse _ => true
  | .taken => true
  | .give _ => true
  | .result _ => true
  | .wait => true
  | .park => true
  | .done => true
  | .present _ => false
  | .nothing => false
  | .ready _ => false

/-- Only GIVE carries a payload (R57 check 4). -/
def Reply.mayCarryPayload : Reply → Bool
  | .give _ => true
  | .present _ => false
  | .accept => false
  | .refuse _ => false
  | .taken => false
  | .result _ => false
  | .wait => false
  | .park => false
  | .nothing => false
  | .ready _ => false
  | .done => false

/-- Checks 2 to 4 of R57: bit 7 of byte 3, the tag and index, and the payload length. -/
def RxFrame.fieldsFit (x : RxFrame) (f : Frame) (r : Reply) : Bool :=
  !(x.byteAt 3).getLsbD 7 &&
  (!r.echoesTag || (decide (x.tag = slotNumber f.slot) && decide (x.index = f.index))) &&
  (r.mayCarryPayload || decide (x.payloadLength = 0))

/-- The row of the table that stands for a reply taken as valid. -/
def Reply.command : Reply → Instr
  | .present depth => .present depth
  | .accept => .accept
  | .refuse reason => .refuse reason
  | .taken => .taken
  | .give payload => .give payload
  | .result status => .result status
  | .wait => .wait
  | .park => .park
  | .nothing => .nothing
  | .ready tag => .ready tag
  | .done => .done

/-- The row of the table that a received frame is, when it ends in state `s` (R56 to R59): a late reply with no frame in AWAITING
or RECEIVING, else garbled, a violation, or the valid reply of its kind. -/
def State.commandOfFrame (s : State) (x : RxFrame) : Instr :=
  match s.frame with
  | none => .lateReply
  | some f =>
    if f.phase = .sending then .lateReply
    else if x.garbled f.station then .garbledReply
    else match x.reply with
      | none => .violationReply
      | some r => if s.replyValid f r && x.fieldsFit f r then r.command else .violationReply

/-- The frame a station sends in reply (R48, R54): its own address, direction 1. -/
def stationFrame (st : StationId) (kindCode : Byte) (tag index : Nat) (argument : Byte) (payload : List Byte) :
    RxFrame :=
  { bytes := (frameBytes (frameBody (routeByte st true) kindCode tag index argument payload)).map fun v =>
      { value := v, framingError := false }
    tooLong := false }

end Sys2Proof.Machine
end

