-- ==== Sys2Proof/Machine/Dispatch.lean ====
section
/-! DEFINITION. One arm per command, each one direct call of its meaning. -/

namespace Sys2Proof.Machine

def exec (i : Instr) (s : State) : Host.Outcome State Fault Refusal :=
  match i with
  | .powerOnReset => Sys2Proof.Machine.execPowerOnReset s
  | .claim => Sys2Proof.Machine.execClaim s
  | .select operand => Sys2Proof.Machine.execSelect operand s
  | .post operand => Sys2Proof.Machine.execPost operand s
  | .drop operand => Sys2Proof.Machine.execDrop operand s
  | .cancel operand => Sys2Proof.Machine.execCancel operand s
  | .pop => Sys2Proof.Machine.execPop s
  | .release operand => Sys2Proof.Machine.execRelease operand s
  | .enableStation operand => Sys2Proof.Machine.execEnableStation operand s
  | .disableStation operand => Sys2Proof.Machine.execDisableStation operand s
  | .linkStart => Sys2Proof.Machine.execLinkStart s
  | .linkStop => Sys2Proof.Machine.execLinkStop s
  | .linkResume => Sys2Proof.Machine.execLinkResume s
  | .snapshot => Sys2Proof.Machine.execSnapshot s
  | .snapshotClear => Sys2Proof.Machine.execSnapshotClear s
  | .softReset => Sys2Proof.Machine.execSoftReset s
  | .unknownCommand code => Sys2Proof.Machine.execUnknownCommand code s
  | .descriptorWrite reg data => Sys2Proof.Machine.execDescriptorWrite reg data s
  | .lengthWrite data => Sys2Proof.Machine.execLengthWrite data s
  | .dataWindowWrite data => Sys2Proof.Machine.execDataWindowWrite data s
  | .dataWindowRead => Sys2Proof.Machine.execDataWindowRead s
  | .causeWrite data => Sys2Proof.Machine.execCauseWrite data s
  | .maskWrite data => Sys2Proof.Machine.execMaskWrite data s
  | .cfg0Write data => Sys2Proof.Machine.execCfg0Write data s
  | .cfg1Write data => Sys2Proof.Machine.execCfg1Write data s
  | .ignoredWrite word data => Sys2Proof.Machine.execIgnoredWrite word data s
  | .lineFaultAsserted => Sys2Proof.Machine.execLineFaultAsserted s
  | .lineFaultNegated => Sys2Proof.Machine.execLineFaultNegated s
  | .interFrameGapEnd => Sys2Proof.Machine.execInterFrameGapEnd s
  | .frameSent => Sys2Proof.Machine.execFrameSent s
  | .replyTimeout => Sys2Proof.Machine.execReplyTimeout s
  | .garbledReply => Sys2Proof.Machine.execGarbledReply s
  | .lateReply => Sys2Proof.Machine.execLateReply s
  | .present depth => Sys2Proof.Machine.execPresent depth s
  | .accept => Sys2Proof.Machine.execAccept s
  | .refuse reason => Sys2Proof.Machine.execRefuse reason s
  | .taken => Sys2Proof.Machine.execTaken s
  | .give payload => Sys2Proof.Machine.execGive payload s
  | .result status => Sys2Proof.Machine.execResult status s
  | .wait => Sys2Proof.Machine.execWait s
  | .park => Sys2Proof.Machine.execPark s
  | .nothing => Sys2Proof.Machine.execNothing s
  | .ready tag => Sys2Proof.Machine.execReady tag s
  | .done => Sys2Proof.Machine.execDone s
  | .holdoffExpiry => Sys2Proof.Machine.execHoldoffExpiry s
  | .backoffExpiry station => Sys2Proof.Machine.execBackoffExpiry station s
  | .pollTimerExpiry station => Sys2Proof.Machine.execPollTimerExpiry station s
  | .lifetimeExpiry slot => Sys2Proof.Machine.execLifetimeExpiry slot s
  | .violationReply => Sys2Proof.Machine.execViolationReply s
  | .replyBegins => Sys2Proof.Machine.execReplyBegins s

end Sys2Proof.Machine
end

