-- ==== Sys2Proof/Safety.lean ====
section
/-! DEFINITION. What a good state of the LX16 is: the relations that the spec says hold after every step, each as a decidable
property of one state. -/

namespace Sys2Proof.Machine

/-- The pool's memory is in canonical form. -/
abbrev State.memoryCanonical (s : State) : Prop := s.mem.wf

/-- The blocks on all slot chains, in slot order. -/
def State.chainBlocks (s : State) : List BlockId := slotOrder.flatMap fun i => (s.slot i).chain

/-- Every block number stands exactly once across the free list and all chains (R26). -/
abbrev State.poolConserved (s : State) : Prop := (s.freeList ++ s.chainBlocks).Perm initialFreeList

/-- How often a slot stands in the dispatch list of a class when it is posted and unfinished: once in the list of its class
(R17). -/
def Slot.listCount (x : Slot) (c : Cls) : Nat :=
  if x.state.isActive = true ∧ x.desc.cls = c then 1 else 0

/-- Every posted and unfinished slot stands exactly once, in the list of its class, and no other slot stands in a list
(R17). -/
abbrev State.listsMatch (s : State) : Prop :=
  ∀ i : SlotId, s.urgent.count i = (s.slot i).listCount .urgent ∧
    s.normal.count i = (s.slot i).listCount .normal

/-- How often a slot's record stands in the completion queue: once while it is COMPLETE (R157). -/
def Slot.recordCount (x : Slot) : Nat := if x.state = .complete then 1 else 0

/-- The completion queue holds exactly one record for each COMPLETE slot and none for another (R157). -/
abbrev State.queueMatches (s : State) : Prop :=
  ∀ i : SlotId, (s.queue.map fun r => r.slot).count i = (s.slot i).recordCount

/-- The unannounced count does not exceed the number of records (R163). -/
abbrev State.unannouncedFits (s : State) : Prop := s.unannounced ≤ s.queue.length

/-- The sequence numbers of the records run consecutively, modulo 256, and the sequence counter follows the last (R158). -/
def seqRunsTo : List Record → Byte → Bool
  | [], _ => true
  | [r], next => decide (r.seq + 1 = next)
  | r :: q :: rest, next => decide (r.seq + 1 = q.seq) && seqRunsTo (q :: rest) next

/-- The queue's sequence numbers are consecutive up to the counter (R158). -/
abbrev State.sequenceRuns (s : State) : Prop := seqRunsTo s.queue s.seqCounter = true

/-- The station status of a record is present exactly for OK, STATION_ERROR and REFUSED (R159). -/
def Record.statusPresence (r : Record) : Bool :=
  decide (r.stationStatus.isSome =
    (decide (r.outcome = .ok) || decide (r.outcome = .stationError) || decide (r.outcome = .refused)))

/-- Every record of the queue has its station status present exactly when its outcome is OK, STATION_ERROR or REFUSED
(R159). -/
abbrev State.statusesPresent (s : State) : Prop := s.queue.all Record.statusPresence = true

/-- Segments of an exchange of a length (R99). -/
def segmentsFor (length : Nat) : Nat := roundUpDiv length Config.segmentBytes

/-- The length field as a number. -/
def Slot.len (x : Slot) : Nat := x.desc.length.toNat

/-- The retry counts of a posted slot sum to the retry allowance (R4). -/
abbrev Slot.retriesSum (x : Slot) : Prop :=
  x.retriesLeft + x.retriesUsed = x.desc.retryAllowance.toNat

/-- The length of a posted slot suits its kind: 1 to 512 for a STORE or a FETCH, 0 for a CONTROL (R14). -/
def Slot.lengthFits (x : Slot) : Bool :=
  match x.desc.kind with
  | .store => decide (1 ≤ x.len) && decide (x.len ≤ Config.maxLength)
  | .fetch => decide (1 ≤ x.len) && decide (x.len ≤ Config.maxLength)
  | .control => decide (x.len = 0)
  | .noKind => false

/-- The progress of an OPEN or PARKED slot in phase DATA (R100). -/
def Slot.dataProgress (x : Slot) : Bool :=
  decide (x.desc.kind ≠ .control) && decide (x.bytesMoved = 64 * x.nextIndex) &&
    decide (x.bytesMoved < x.len) && !x.short

/-- The progress of an OPEN or PARKED slot in phase FINISHING, by its kind (R100). -/
def Slot.finishingProgress (x : Slot) : Bool :=
  match x.desc.kind with
  | .store => decide (x.nextIndex = segmentsFor x.len) && decide (x.bytesMoved = x.len) && !x.short
  | .fetch =>
    decide (1 ≤ x.nextIndex) && decide (x.nextIndex ≤ segmentsFor x.len) &&
      decide (64 * (x.nextIndex - 1) ≤ x.bytesMoved) && decide (x.bytesMoved ≤ 64 * x.nextIndex) &&
      decide (x.bytesMoved ≤ x.len) && decide (x.short = decide (x.bytesMoved < x.len))
  | .control => decide (x.nextIndex = 0) && decide (x.bytesMoved = 0) && !x.short
  | .noKind => false

/-- The slot has been posted: QUEUED, OPEN, PARKED, ABORTING, COMPLETE or SETTLED. -/
def SlotState.isPosted (st : SlotState) : Bool :=
  st.isActive || decide (st = .complete) || decide (st = .settled)

/-- A slot's progress fields stand in the relations of R4 and R100 for its state. -/
abbrev Slot.progressFits (x : Slot) : Prop :=
  (x.state.isPosted = false → x.nextIndex = 0 ∧ x.bytesMoved = 0 ∧ x.retriesUsed = 0 ∧ x.short = false) ∧
  (x.state.isPosted = true → x.retriesSum ∧ x.bytesMoved ≤ x.len) ∧
  (x.state.isActive = true → x.lengthFits) ∧
  (x.state = .queued → x.phase = .data ∧ x.nextIndex = 0 ∧ x.bytesMoved = 0 ∧ x.short = false) ∧
  (x.state = .opened ∨ x.state = .parked →
    (x.phase = .data → x.dataProgress) ∧ (x.phase = .finishing → x.finishingProgress))

/-- Every slot's progress fields stand in the relations of R4 and R100. -/
abbrev State.progressFits (s : State) : Prop := ∀ i : SlotId, (s.slot i).progressFits

/-- The blocks that a posted and unfinished slot holds: those of its length, none for a CONTROL (R34). -/
def Slot.postedBlocks (x : Slot) : Nat := blocksFor x.desc.length.toNat

/-- The number of blocks on a slot's chain by its state, the table of R34 with R33 for a CLAIMED slot. -/
abbrev Slot.chainFits (x : Slot) : Prop :=
  (x.state = .free → x.chain = [] ∧ x.fillCursor = 0) ∧
  (x.state = .claimed →
    x.chain.length = blocksFor x.fillCursor ∧ x.fillCursor % 4 = 0 ∧ x.fillCursor ≤ Config.maxLength ∧
      (0 < x.fillCursor → x.fillCursor < x.len + 4)) ∧
  (x.state.isActive = true → x.lengthFits ∧ x.chain.length = x.postedBlocks) ∧
  (x.state = .complete ∨ x.state = .settled → x.chain.length = x.keptBlocks)

/-- Every slot's chain has the blocks that R33 and R34 give its state. -/
abbrev State.chainsFit (s : State) : Prop := ∀ i : SlotId, (s.slot i).chainFits

/-! ## Stations, engagement and parking -/

/-- A station outside ONLINE has no engaged slot, no parked slot and no running timer (R64, R73, R76). -/
abbrev Station.quietUnlessOnline (r : Station) : Prop :=
  r.state ≠ .online → r.engaged = none ∧ r.parked = [] ∧ r.backoff = none ∧ r.pollTimer = .stopped

/-- Every station outside ONLINE is quiet. -/
abbrev State.stationsQuiet (s : State) : Prop := ∀ st : StationId, (s.station st).quietUnlessOnline

/-- With the link OFF or SUSPENDED no frame is in flight, no station is ONLINE or WITHDRAWING, and no slot is OPEN or PARKED
(R52, R178). -/
abbrev State.linkDownQuiet (s : State) : Prop :=
  s.link.isUp = false →
    s.frame = none ∧ (∀ st : StationId, (s.station st).state ≠ .online ∧ (s.station st).state ≠ .withdrawing) ∧
    ∀ i : SlotId, (s.slot i).state ≠ .opened ∧ (s.slot i).state ≠ .parked

/-- The parked list of a station holds only PARKED slots of the station, each once, within its park depth (R123). -/
abbrev State.parkedFits (s : State) (st : StationId) : Prop :=
  (s.station st).parked.Nodup ∧ (s.station st).parked.length ≤ (s.station st).parkDepth ∧
  ∀ i ∈ (s.station st).parked, (s.slot i).state = .parked ∧ (s.slot i).desc.stationId = some st

/-- The engaged slot of a station is a slot of the station in OPEN or ABORTING (R64). -/
abbrev State.engagedFits (s : State) (st : StationId) : Prop :=
  ∀ i : SlotId, (s.station st).engaged = some i →
    ((s.slot i).state = .opened ∨ (s.slot i).state = .aborting) ∧ (s.slot i).desc.stationId = some st

/-- An OPEN slot is the engaged slot of its station (R64). -/
abbrev State.openEngaged (s : State) (i : SlotId) : Prop :=
  (s.slot i).state = .opened → ∃ st : StationId, (s.slot i).desc.stationId = some st ∧ (s.station st).engaged = some i

/-- A PARKED slot stands in its station's parked list, unless its station is WITHDRAWING (R123, R134). -/
abbrev State.parkedListed (s : State) (i : SlotId) : Prop :=
  (s.slot i).state = .parked → ∃ st : StationId, (s.slot i).desc.stationId = some st ∧
    (i ∈ (s.station st).parked ∨ (s.station st).state = .withdrawing)

/-- A ready flag is set only in a PARKED slot that stands in its station's parked list (R126). -/
abbrev State.readyListed (s : State) (i : SlotId) : Prop :=
  (s.slot i).ready = true → (s.slot i).state = .parked ∧
    ∃ st : StationId, (s.slot i).desc.stationId = some st ∧ i ∈ (s.station st).parked

/-- A posted and unfinished slot names a station, and one that is neither DISABLED, ABSENT nor FAULTY (R66 to R73). -/
abbrev State.activeServed (s : State) (i : SlotId) : Prop :=
  (s.slot i).state.isActive = true → ∃ st : StationId, (s.slot i).desc.stationId = some st ∧
    (s.station st).state ≠ .disabled ∧ (s.station st).state ≠ .absent ∧ (s.station st).state ≠ .faulty

/-- The slot of a set in-flight flag is the slot of the frame in flight, which is the frame it offers, at its ONLINE station
(R52, R101). -/
abbrev State.flagFits (s : State) (i : SlotId) : Prop :=
  (s.slot i).inFlight = true → ∃ f ∈ s.frame, f.slot = some i ∧ (s.slot i).desc.stationId = some f.station ∧
    (s.slot i).state ≠ .parked ∧ (s.slot i).nextFrame = some (f.kind, f.index) ∧
    (s.station f.station).state = .online ∧
    (f.kind = .openReq → (s.station f.station).engaged = none)

/-- The engaged fields, the parked lists, the ready flags, the active slots and the in-flight flags stand in the relations of
R52, R64, R101, R123 and R126. -/
abbrev State.engagement (s : State) : Prop :=
  (∀ st : StationId, s.parkedFits st ∧ s.engagedFits st) ∧
  ∀ i : SlotId, s.openEngaged i ∧ s.parkedListed i ∧ s.readyListed i ∧ s.activeServed i ∧ s.flagFits i

/-- The poll timer runs or is expired only while the poll condition holds, is stopped only while it does not, and is held exactly
while a POLL to the ONLINE station is in flight (R76, R127). -/
abbrev State.pollFits (s : State) (st : StationId) : Prop :=
  ((s.station st).pollTimer = .expired ∨ (s.station st).pollTimer.isRunning = true → s.pollCondition st = true) ∧
  ((s.station st).pollTimer = .stopped → s.pollCondition st = false) ∧
  ((s.station st).pollTimer = .held → ∃ f ∈ s.frame, f.kind = .poll ∧ f.station = st) ∧
  ∀ f ∈ s.frame, f.kind = .poll → f.station = st → (s.station st).state = .online → (s.station st).pollTimer = .held

/-- Every poll timer fits. -/
abbrev State.pollTimersFit (s : State) : Prop := ∀ st : StationId, s.pollFits st

/-- The gap has not passed while a received frame is open that a byte has been received of, nor in SENDING; with a frame in flight a
received frame is open exactly in RECEIVING, and the reply timer runs exactly in AWAITING (R42, R46, R47, R52, R53). -/
abbrev State.lineFits (s : State) : Prop :=
  (s.receiver = .frameOpen → s.gapPassed = false) ∧
  ∀ f ∈ s.frame, (f.phase = .sending → s.gapPassed = false) ∧
    (f.phase = .receiving ↔ s.receiver ≠ .waiting) ∧ (f.phase = .awaiting ↔ f.replyTimer.isSome = true)

/-! ## Terms of the statements -/

/-- A slot that POST's checks of R14 let through, with `free` blocks in the free list. -/
def Slot.passesPost (x : Slot) (free : Nat) : Prop :=
  1 ≤ x.desc.station.toNat ∧ x.desc.station.toNat ≤ 8 ∧
  match x.desc.kind with
  | .store => 1 ≤ x.len ∧ x.len ≤ 512 ∧ x.fillError = false ∧ x.len ≤ x.fillCursor
  | .fetch => 1 ≤ x.len ∧ x.len ≤ 512 ∧ x.fillCursor = 0 ∧ (x.len + 31) / 32 ≤ free
  | .control => x.len = 0 ∧ x.fillCursor = 0
  | .noKind => False

/-- The blocks that an accepted POST takes: the length divided by 32 and rounded up for a FETCH, none otherwise (R16). -/
def Slot.blocksTaken (x : Slot) : Nat := if x.desc.kind = .fetch then (x.len + 31) / 32 else 0

/-- A reply to the frame `f` of slot `i` is being received in RUNNING from an ONLINE station, and the slot takes its report
(R101). -/
def State.receives (s : State) (f : Frame) (i : SlotId) : Prop :=
  s.link = .running ∧ s.frame = some f ∧ f.phase = .receiving ∧ f.slot = some i ∧
    (s.slot i).inFlight = true ∧ (s.slot i).desc.stationId = some f.station ∧
    (s.station f.station).state = .online

/-- The frame `f` of slot `i` is in flight in RUNNING to an ONLINE station, and the slot's in-flight flag is set (R101). -/
def State.serves (s : State) (f : Frame) (i : SlotId) : Prop :=
  s.link = .running ∧ s.frame = some f ∧ f.slot = some i ∧ (s.slot i).inFlight = true ∧
    (s.slot i).desc.stationId = some f.station ∧ (s.station f.station).state = .online

/-- The command `c` ends the frame in flight `f` as failed: garbled or violating while its reply is being received, or silent while
it is awaited and the reply timer runs (R53, R56, R57). -/
def State.failsBy (s : State) (f : Frame) (c : Instr) : Prop :=
  s.frame = some f ∧
    ((f.phase = .receiving ∧ (c = .garbledReply ∨ c = .violationReply)) ∨
      (f.phase = .awaiting ∧ f.replyTimer ≠ none ∧ c = .replyTimeout))

/-- The gap from the last bit has passed when the frame `f` ends by the command `c`: never after a reply, and at a silent timeout
when it ended in AWAITING or when the reply timeout is at least 4 byte-times (R47). -/
def State.gapAfter (s : State) (f : Frame) (c : Instr) : Bool :=
  decide (c = .replyTimeout) &&
    (s.gapPassed || f.replyTimer.any fun n => decide (40 * s.takenRate.bitClocks ≤ n * 256))

/-- The consecutive silent count after a frame other than a SYNC ends by `c`: a silent timeout adds 1, any reply sets it to 0
(R180). -/
def State.silentAfter (s : State) (c : Instr) : Nat := if c = .replyTimeout then s.silentCount + 1 else 0

/-- The end of the step of a report: after a silent timeout the scheduler looks at the line, after a reply the gap is still to pass
(R47, R81). -/
def State.afterReport (u : State) (c : Instr) : State := if c = .replyTimeout then u.dispatch else u

/-- A silent timeout does not bring the silent count to the link-loss threshold (R181). -/
def State.keepsLink (s : State) (c : Instr) : Prop :=
  c = .replyTimeout → s.silentCount + 1 < s.cfg.linkLossThreshold

/-- A row of the table that ends a frame in RECEIVING by a reply taken, valid or failed. -/
def endsByReply : Instr → Prop
  | .present _ | .accept | .refuse _ | .taken | .give _ | .result _ | .wait | .park | .nothing | .ready _ | .done
  | .garbledReply | .violationReply => True
  | _ => False

/-- No station other than `st` is PROBING or WITHDRAWING (R175). -/
def State.noOtherProbe (s : State) (st : StationId) : Prop :=
  ∀ v, v ≠ st → (s.station v).state ≠ .probing ∧ (s.station v).state ≠ .withdrawing

/-- From `s` to `u` the link passes from STARTING to RUNNING with the LINK cause where `passes` holds, and is as before otherwise
(R175). -/
def State.linkPasses (s u : State) (passes : Prop) : Prop :=
  (s.link = .starting ∧ passes → u.link = .running ∧ u.linkCause = true) ∧
  (¬ (s.link = .starting ∧ passes) → u.link = s.link ∧ u.linkCause = s.linkCause)

/-- What every valid reply to a slot's frame changes in RUNNING: the frame ends (R52), the inter-frame gap is still to pass
(R47), valid replies rises by 1 (R61), the station's failures are 0 (R72) and the silent count is 0 (R180). -/
def State.replyTaken (s : State) (f : Frame) (i : SlotId) : State :=
  { s with
    frame := none
    gapPassed := false
    receiver := .waiting
    silentCount := 0
    stats := { s.stats with validReplies := s.stats.validReplies + 1 }
    slots := s.slots.set i.val { s.slot i with inFlight := false }
    stations := s.stations.set f.station.val { s.station f.station with failures := 0 } }

/-- What every failed reply to a slot's frame changes in RUNNING without a fault step: the frame ends (R52), failed replies
rises by 1 but for a violation (R61), the station's failures rise by 1 (R72), and the silent count becomes `silent` (R180). -/
def State.failureTaken (s : State) (f : Frame) (i : SlotId) (violation gap : Bool) (silent : Nat) : State :=
  { s with
    frame := none
    gapPassed := gap
    receiver := .waiting
    silentCount := silent
    stats := { s.stats with
      failedReplies := if violation then s.stats.failedReplies else s.stats.failedReplies + 1 }
    slots := s.slots.set i.val { s.slot i with inFlight := false }
    stations := s.stations.set f.station.val
      { s.station f.station with failures := (s.station f.station).failures + 1 } }

/-- The frame `f` is the one that a QUEUED or OPEN slot offers (R83): OPEN, SEND, PULL or FINISH. -/
def Slot.offers (x : Slot) (f : Frame) : Prop :=
  (x.state = .queued ∧ f.kind = .openReq ∧ f.index = 0) ∨
  (x.state = .opened ∧ x.phase = .data ∧ x.desc.kind = .store ∧ f.kind = .send ∧ f.index = x.nextIndex) ∨
  (x.state = .opened ∧ x.phase = .data ∧ x.desc.kind = .fetch ∧ f.kind = .pull ∧ f.index = x.nextIndex) ∨
  (x.state = .opened ∧ x.phase = .finishing ∧ f.kind = .finish ∧ f.index = 0)

/-- From `s` to `u` exactly the slots of `ids` have completed, in that order, each with the outcome `o` gives it and without
a station status: they are COMPLETE, they have left both dispatch lists, and their records stand at the tail of the queue
with consecutive sequence numbers (R19 to R21). -/
def State.completesInOrder (s u : State) (ids : List SlotId) (o : SlotId → Ending) : Prop :=
  (∀ i ∈ ids, (u.slot i).state = .complete ∧ (u.slot i).outcome = some (o i) ∧
    (u.slot i).stationStatus = none ∧ (u.slot i).lateStop = false ∧ (u.slot i).lifetimeTimer = none ∧
    (u.slot i).stopRequest = none ∧ (u.slot i).bytesMoved = (s.slot i).bytesMoved ∧
    (u.slot i).desc = (s.slot i).desc) ∧
  (∀ i, i ∉ ids → (u.slot i).state = (s.slot i).state) ∧
  (∃ recs : List Record, u.queue = s.queue ++ recs ∧
    recs.map (fun r => (r.slot, r.outcome)) = ids.map (fun i => (i, o i)) ∧
    recs.map (fun r => r.seq) =
      (List.range ids.length).map (fun k => s.seqCounter + BitVec.ofNat 8 k)) ∧
  u.seqCounter = s.seqCounter + BitVec.ofNat 8 ids.length ∧
  u.urgent = s.urgent.filter (fun i => decide (i ∉ ids)) ∧
  u.normal = s.normal.filter (fun i => decide (i ∉ ids))

/-- The slots of both dispatch lists, in walk order, that a station's descriptor names and whose state is one of `states`. -/
def State.walkAt (s : State) (st : StationId) (states : List SlotState) : List SlotId :=
  s.walkOrder.filter fun i =>
    decide ((s.slot i).desc.stationId = some st) && decide ((s.slot i).state ∈ states)

/-- A slot is in no dispatch list and in no station's engaged field or parked list. -/
def State.unlinked (s : State) (i : SlotId) : Prop :=
  i ∉ s.urgent ∧ i ∉ s.normal ∧
    ∀ st : StationId, (s.station st).engaged ≠ some i ∧ i ∉ (s.station st).parked

/-- The outcomes that an ABORTING slot may hold pending: PROTOCOL, BUSY_LIMIT, CANCELLED and TIMED_OUT (R149). -/
def Ending.isPending : Ending → Bool
  | .protocol => true
  | .busyLimit => true
  | .cancelled => true
  | .timedOut => true
  | .ok => false
  | .stationError => false
  | .refused => false
  | .linkError => false
  | .stationFault => false
  | .noStation => false
  | .withdrawn => false
  | .linkLost => false
  | .stopped => false

/-- Every pending outcome is one that R149 names. -/
abbrev State.pendingFits (s : State) : Prop :=
  ∀ i : SlotId, (s.slot i).pendingOutcome.all Ending.isPending = true

/-! ## The whole -/

/-- The relations that the slot table, the pool, the dispatch lists and the completion queue keep among themselves. -/
def State.tablesGood (s : State) : Prop :=
  s.memoryCanonical ∧ s.poolConserved ∧ s.listsMatch ∧ s.queueMatches ∧ s.unannouncedFits ∧ s.sequenceRuns ∧
    s.statusesPresent ∧ s.progressFits ∧ s.chainsFit

/-- The relations that also concern the stations, the frame in flight and the link. -/
def State.stationsGood (s : State) : Prop :=
  s.stationsQuiet ∧ s.linkDownQuiet ∧ s.engagement ∧ s.pollTimersFit ∧ s.lineFits

/-- A good state. -/
def State.good (s : State) : Prop := s.tablesGood ∧ s.stationsGood

end Sys2Proof.Machine
end

