-- ==== Sys2Proof/Certificates/Slice0/Obligations.lean ====
section
/-! DEFINITION. The statements for the provers. Each says what a command or the machine does, in the words of the numbered rule
it names; a statement that gives a whole next state by a record update says the frame with it: every field it does not name is
as before. -/

section Statements

open Sys2Proof Sys2Proof.Machine

/-! ## The step and the commands -/

/-- A step takes the command at the front of the queue and runs it on the state with the queue's rest (the queue is the model's own,
assumption log 4). On an empty queue it changes nothing, but that a first byte that is arriving has been received, which
moves the end of the gap (the model's choice, assumption log 1). -/
def Obligations.StepRunsFrontCommand : Prop :=
  (∀ (c : Instr) (rest : List Instr) (s : State), s.pending = c :: rest →
    step s = exec c { s with pending := rest }) ∧
  ∀ s : State, s.pending = [] →
    step s = .next (if s.receiver = .firstByte then { s with gapPassed := false, receiver := .frameOpen } else s)

/-- Every command of the spec is taken in every state: exec answers a next state, and leaves the commands that wait behind it as they
are (the queue is the model's own, assumption log 4). The terms that are no command of the spec stop: a listed code as an
unknown command and a writable word as an ignored write are refused, and a station address that is not 1 to 8 in a timer
event is a fault (the model's choice, assumption log 5). -/
def Obligations.EveryCommandIsTaken : Prop :=
  (∀ (c : Instr) (s : State), c.wellFormed = true → ∃ t, exec c s = .next t ∧ t.pending = s.pending) ∧
  ∀ s : State,
    (∀ code : Byte, code ∈ commandCodes → exec (.unknownCommand code) s = .refused .notACommand) ∧
    (∀ (w : BitVec 5) (d : Word), w ∈ writableWords →
      exec (.ignoredWrite w d) s = .refused .notACommand) ∧
    ∀ a : BitVec 4, (a.toNat = 0 ∨ 9 ≤ a.toNat) →
      exec (.backoffExpiry a) s = .fault .noSuchStation ∧
      exec (.pollTimerExpiry a) s = .fault .noSuchStation

/-- A write of the host window that spells a command decodes to that command, for every operand; every write, of any word and any
data, is one command of the spec; and of a CMD write bits 16 to 31 have no effect, nor have bits 8 to 15 where the code takes
no operand (R187 to R189). -/
def Obligations.HostWriteRoundTrip : Prop :=
  (∀ (c : Instr) (word : BitVec 5) (data : Word), c.wellFormed = true →
    encodeHostWrite c = some (word, data) → decodeHostWrite word data = c) ∧
  (∀ (word : BitVec 5) (data : Word), (decodeHostWrite word data).wellFormed = true) ∧
  (∀ data e : Word, data.extractLsb' 0 16 = e.extractLsb' 0 16 → decodeHostWrite 0 data = decodeHostWrite 0 e) ∧
  ∀ data e : Word, data.extractLsb' 0 8 = e.extractLsb' 0 8 →
    data.extractLsb' 0 8 ∉ [(0x02 : Byte), 0x03, 0x04, 0x05, 0x07, 0x10, 0x11] →
    decodeHostWrite 0 data = decodeHostWrite 0 e

/-- A frame on the line is the opener B4h, the body, and the CRC of the body, low byte first. The CRC starts at FFFFh, adds each
byte into the upper eight bits and shifts eight times with 1021h; the nine bytes 31h to 39h give 29B1h, and a run of bytes
followed by its own CRC, high byte first, gives 0 (R48, R50). -/
def Obligations.FrameBytesAndCrc : Prop :=
  let shift (r : BitVec 16) : BitVec 16 := if r.getLsbD 15 then (r <<< 1) ^^^ 0x1021 else r <<< 1
  (∀ body : List Byte, frameBytes body =
    (0xB4 : Byte) :: (body ++ [(crc16 body).extractLsb' 0 8, (crc16 body).extractLsb' 8 8])) ∧
  crc16 [] = 0xFFFF ∧
  (∀ (bytes : List Byte) (b : Byte), crc16 (bytes ++ [b]) =
    shift (shift (shift (shift (shift (shift (shift (shift (crc16 bytes ^^^ (b.setWidth 16 <<< 8)))))))))) ∧
  crc16 [0x31, 0x32, 0x33, 0x34, 0x35, 0x36, 0x37, 0x38, 0x39] = 0x29B1 ∧
  ∀ bytes : List Byte, crc16 (bytes ++ [(crc16 bytes).extractLsb' 8 8, (crc16 bytes).extractLsb' 0 8]) = 0

/-- Each byte of a frame is ten levels on the line, start bit low, bit 0 first, stop bit high, each byte directly after the one
before; LINE_DE is asserted exactly while a frame is in SENDING, and LINE_TX follows the frame's levels then and is high
otherwise (R42, R43). The receiver takes back the byte that the levels spell, with a framing error where the stop bit samples
low, after a start bit that still samples low (R45). Bytes less than 3 byte-times apart are one received frame, up to 72; the
start bit of a 73rd ends the frame too long and begins a further one, and so does 3 byte-times of idle end it (R46). The levels
and the grouping are functions of the model (assumption log 13). -/
def Obligations.LineLevelsAndReceivedFrames : Prop :=
  (∀ bytes : List Byte, (frameLevels bytes).length = 10 * bytes.length ∧
    ∀ (k j : Nat) (b : Byte), bytes[k]? = some b → j < 10 → (frameLevels bytes)[10 * k + j]? =
      some (if j = 0 then false else if j = 9 then true else b.getLsbD (j - 1))) ∧
  (∀ s : State, (s.lineDE = true ↔ ∃ f, s.frame = some f ∧ f.phase = .sending) ∧
    (s.lineDE = false → ∀ k, s.lineTx k = true) ∧
    ∀ (f : Frame) (k : Nat) (level : Bool), s.frame = some f → f.phase = .sending →
      (frameLevels f.bytes)[k]? = some level → s.lineTx k = level) ∧
  (∀ (b : Byte) (stop : Bool), sampleByte ((List.range 8).map fun k => b.getLsbD k) stop =
    { value := b, framingError := !stop }) ∧
  (startAccepted false = true ∧ startAccepted true = false) ∧
  ([BitRate.kbit500, .mbit1, .mbit2, .mbit4].map BitRate.bitClocks = [64, 32, 16, 8] ∧
    ∀ r : BitRate, r.idleClocks = 30 * r.bitClocks ∧ r.gapClocks = 40 * r.bitClocks ∧
      ∀ bytes : List Byte, r.sendClocks bytes = 10 * bytes.length * r.bitClocks) ∧
  ∀ (r : BitRate) (b : TimedByte) (bs : List TimedByte),
    let near (l : List TimedByte) : Prop := ∀ c ∈ l, c.idle < 30 * r.bitClocks
    (near bs → bs.length < 72 → receivedFrames r (b :: bs) =
      [{ bytes := (b :: bs).map TimedByte.byte, tooLong := false }]) ∧
    (∀ (c : TimedByte) (rest : List TimedByte), near bs → bs.length = 71 → c.idle < 30 * r.bitClocks →
      receivedFrames r (b :: bs ++ c :: rest) =
        { bytes := (b :: bs).map TimedByte.byte, tooLong := true } :: receivedFrames r (c :: rest)) ∧
    ∀ (c : TimedByte) (rest : List TimedByte), 30 * r.bitClocks ≤ c.idle →
      receivedFrames r (b :: bs ++ c :: rest) = receivedFrames r (b :: bs) ++ receivedFrames r (c :: rest)

/-- The frame a station sends for a reply, of each of the eleven kinds, with a CRC of R50 and under the tag and index of the frame in
flight where they are examined, is classified as that reply when it is valid and as a violation otherwise (R48, R50, R54 to
R57); what a reply row stands for is assumption log 6. -/
def Obligations.StationFrameIsClassified : Prop :=
  ∀ (s : State) (f : Frame) (st : StationId) (r : Reply) (kindCode argument : Byte) (tag index : Nat)
    (payload : List Byte),
    s.frame = some f → f.phase = .receiving → f.station = st → tag < 16 → index < 8 → payload.length ≤ 64 →
    let echoes : Prop := tag = (f.slot.map fun i => i.val).getD 0 ∧ index = f.index
    ((kindCode = 1 ∧ r = .present argument ∧ payload = []) ∨
      (kindCode = 2 ∧ r = .accept ∧ payload = [] ∧ echoes) ∨
      (kindCode = 3 ∧ r = .refuse argument ∧ payload = [] ∧ echoes) ∨
      (kindCode = 4 ∧ r = .taken ∧ payload = [] ∧ echoes) ∨ (kindCode = 5 ∧ r = .give payload ∧ echoes) ∨
      (kindCode = 6 ∧ r = .result argument ∧ payload = [] ∧ echoes) ∨
      (kindCode = 7 ∧ r = .wait ∧ payload = [] ∧ echoes) ∨ (kindCode = 8 ∧ r = .park ∧ payload = [] ∧ echoes) ∨
      (kindCode = 9 ∧ r = .nothing ∧ payload = []) ∨
      (kindCode = 10 ∧ (∃ i : SlotId, i.val = tag ∧ r = .ready i) ∧ payload = []) ∨
      (kindCode = 11 ∧ r = .done ∧ payload = [] ∧ echoes)) →
    s.commandOfFrame (stationFrame st kindCode tag index argument payload) =
      if s.replyValid f r then r.command else .violationReply

/-- A received frame that fails a check of R56 is garbled. One that passes them all is a violation when its kind code is none that R55
allows for the frame in flight, 0 and 12 and above among them, when bit 7 of byte 3 is set, when a reply that echoes the tag
and index carries another, and when a kind other than GIVE carries a payload (R55, R56, R57); with no frame in flight it is a
late reply (R59). -/
def Obligations.WrongFramesAreNotTaken : Prop :=
  ∀ (s : State) (x : RxFrame),
    (s.frame = none → s.commandOfFrame x = .lateReply) ∧
    ∀ f : Frame, s.frame = some f → f.phase = .receiving →
      let v (k : Nat) : Byte := ((x.bytes.map RxByte.value)[k]?).getD 0
      let n : Nat := (v 5).toNat
      let wrong : Prop := x.bytes.length < 8 ∨ (∃ b ∈ x.bytes, b.framingError = true) ∨ v 0 ≠ 0xB4 ∨
        (v 1).toNat ≠ f.station.val + 1 + 16 ∨
        64 < n ∨ x.bytes.length ≠ 8 + n ∨ x.tooLong = true ∨
        v (6 + n) ≠ (crc16 (((x.bytes.map RxByte.value).drop 1).take (5 + n))).extractLsb' 0 8 ∨
        v (7 + n) ≠ (crc16 (((x.bytes.map RxByte.value).drop 1).take (5 + n))).extractLsb' 8 8
      let tag : Nat := (f.slot.map fun i => i.val).getD 0
      let allowed : List Nat := match f.kind with
        | .sync => [1]
        | .openReq => [2, 3, 7]
        | .send => [4, 7, 8]
        | .pull => [5, 7, 8]
        | .finish => [6, 7, 8]
        | .poll => [9, 10]
        | .abort => [11]
      (wrong → s.commandOfFrame x = .garbledReply) ∧
      (¬ wrong → s.commandOfFrame x ≠ .garbledReply ∧
        ((v 2).toNat ∉ allowed ∨ (v 3).getLsbD 7 = true ∨
            ((v 2).toNat ∈ [2, 3, 4, 5, 6, 7, 8, 11] ∧ ((v 3).toNat % 16 ≠ tag ∨ (v 3).toNat / 16 % 8 ≠ f.index)) ∨
            ((v 2).toNat ≠ 5 ∧ n ≠ 0) →
          s.commandOfFrame x = .violationReply))

/-! ## Resets -/

/-- POWER_ON_RESET leaves every piece of state at its power-on value; the interrupt line is high, LINE_DE is released and LINE_TX high
(R1, R25, R42, R47, R52, R61, R62, R156, R170, R173, R182, R186, R190, R191, R193). SOFT_RESET differs from it only in what it
keeps: the configuration values, the cause mask and LINE_FAULT as taken (R182, R184, R196). The values of `takenRate` and
`readData`, the phase of a FREE slot and the waiting commands that stay are the model's (assumption logs 8, 9, 10, 4), and so
are the fields that hold the gap, which is counted from the reset, and the receiver (assumption log 7). -/
def Obligations.ResetCommands : Prop :=
  ∀ s : State, ∃ t, exec .powerOnReset s = .next t ∧
    (∀ i : SlotId, t.slot i =
      { state := .free
        desc :=
          { station := 0, kind := .noKind, function := 0, selector := 0, length := 0, cls := .normal
            retryAllowance := 0, busyAllowance := 0, lifetime := 0 }
        phase := .data, nextIndex := 0, bytesMoved := 0, retriesLeft := 0, retriesUsed := 0
        busyLeft := 0, busySeen := 0, possiblyOpened := false, inFlight := false, stopRequest := none
        pendingOutcome := none, abortAttempts := 0, ready := false, lifetimeTimer := none, chain := []
        fillCursor := 0, fillError := false, readCursor := 0, outcome := none, short := false
        lateStop := false, abortUnconfirmed := false, stationStatus := none }) ∧
    (∀ st : StationId, t.station st =
      { state := .disabled, parkDepth := 0, engaged := none, parked := [], failures := 0
        backoff := none, pollTimer := .stopped, probeAttempts := 0, withdrawAttempts := 0
        changed := false }) ∧
    t.urgent = [] ∧ t.normal = [] ∧
    t.freeList.map (fun b => b.val) = List.range 128 ∧ (∀ a : Nat, t.mem.read a = 0) ∧
    t.link = .off ∧ t.silentCount = 0 ∧ t.lineFault = false ∧ t.frame = none ∧
    t.gapPassed = false ∧ t.receiver = .waiting ∧ t.lineDE = false ∧ (∀ k, t.lineTx k = true) ∧
    t.takenRate = .mbit1 ∧ t.readData = 0 ∧
    t.queue = [] ∧ t.seqCounter = 0 ∧ t.unannounced = 0 ∧ t.holdoffTimer = none ∧
    t.completionCause = false ∧ t.stationCause = false ∧ t.linkCause = false ∧
    t.mask = { completion := false, station := false, link := false } ∧ t.intN = true ∧
    t.status = .done ∧ t.statusSlot = none ∧ t.selected = 0 ∧
    t.cfg =
      { bitRate := .mbit1, replyTimeout := 25, linkLossThreshold := 8, faultThreshold := 4
        backoffInterval := 10, pollInterval := 5, completionThreshold := 1, holdoff := 0 } ∧
    t.stats =
      { framesSent := 0, validReplies := 0, failedReplies := 0, lateReplies := 0, waitReplies := 0
        payloadBytes := 0 } ∧
    t.snap = t.stats ∧ t.pending = s.pending ∧
    ∃ u, exec .softReset s = .next u ∧ u.intN = true ∧ u.lineDE = false ∧ (∀ k, u.lineTx k = true) ∧
      u = { t with
        cfg := s.cfg, mask := s.mask, lineFault := s.lineFault
        takenRate := s.takenRate, readData := s.readData }

/-- The state after reset meets every invariant of this list. -/
def Obligations.ResetMeetsInvariants : Prop := State.reset.good ∧ State.reset.pendingFits

/-! ## Slot commands -/

/-- CLAIM takes the lowest-numbered FREE slot with the values of the last column of 1.2.1, and gives NO_SLOT when none is FREE
(R8); SELECT makes its operand the selected slot and sets that slot's read cursor to 0, in every state of the slot (R6). -/
def Obligations.ClaimAndSelect : Prop :=
  ∀ s : State,
    (∀ i : SlotId, (s.slot i).state = .free → (∀ j : SlotId, j < i → (s.slot j).state ≠ .free) →
      exec .claim s = .next { s with
        slots := s.slots.set i.val { s.slot i with
          state := .claimed
          desc :=
            { station := 1, kind := .store, function := 0, selector := 0, length := 0, cls := .normal
              retryAllowance := 3, busyAllowance := 0, lifetime := 0 } }
        status := .done
        statusSlot := some i }) ∧
    ((∀ i : SlotId, (s.slot i).state ≠ .free) →
      exec .claim s = .next { s with status := .noSlot, statusSlot := none }) ∧
    ∀ (op : Byte) (i : SlotId), op.toNat = i.val →
      exec (.select op) s = .next { s with
        selected := i
        slots := s.slots.set i.val { s.slot i with readCursor := 0 }
        status := .done
        statusSlot := none }

/-- A slot command with an operand of 16 or above is refused with BAD_OPERAND, and a POST or CANCEL that its slot's state forbids
with WRONG_STATE. POST of a CLAIMED slot that fails a check of R14, in the order of its table, or whose station is DISABLED, is
refused with that check's code. Each changes the command status alone (R5, R13, R14, R15, R143). -/
def Obligations.SlotCommandRefusals : Prop :=
  ∀ (s : State) (op : Byte),
    (16 ≤ op.toNat → ∀ c ∈ [Instr.select op, .post op, .drop op, .cancel op, .release op],
      exec c s = .next { s with status := .badOperand, statusSlot := none }) ∧
    ∀ i : SlotId, op.toNat = i.val →
      ((s.slot i).state ≠ .claimed →
        exec (.post op) s = .next { s with status := .wrongState, statusSlot := none }) ∧
      ((s.slot i).state ∉ [SlotState.queued, .opened, .parked] ∨ (s.slot i).stopRequest ≠ none →
        exec (.cancel op) s = .next { s with status := .wrongState, statusSlot := none }) ∧
      ((s.slot i).state = .claimed →
        let x := s.slot i
        let refused (c : Status) : Prop := exec (.post op) s = .next { s with status := c, statusSlot := none }
        let named : Prop := 1 ≤ x.desc.station.toNat ∧ x.desc.station.toNat ≤ 8
        (¬ named ∨ x.desc.kind = .noKind → refused .badDescriptor) ∧
        (named → x.desc.kind = .store → (x.len = 0 ∨ 512 < x.len) → refused .badDescriptor) ∧
        (named → x.desc.kind = .store → 1 ≤ x.len → x.len ≤ 512 → x.fillError = true → refused .fillError) ∧
        (named → x.desc.kind = .store → 1 ≤ x.len → x.len ≤ 512 → x.fillError = false →
          x.fillCursor < x.len → refused .badDescriptor) ∧
        (named → x.desc.kind = .fetch → (x.len = 0 ∨ 512 < x.len ∨ x.fillCursor ≠ 0) → refused .badDescriptor) ∧
        (named → x.desc.kind = .fetch → 1 ≤ x.len → x.len ≤ 512 → x.fillCursor = 0 →
          s.freeList.length < (x.len + 31) / 32 → refused .noSpace) ∧
        (named → x.desc.kind = .control → (x.len ≠ 0 ∨ x.fillCursor ≠ 0) → refused .badDescriptor) ∧
        (x.passesPost s.freeList.length → s.stationStateOf x = some .disabled → refused .stationDisabled))

/-- DROP of a CLAIMED slot and RELEASE of a SETTLED one return every block of the chain to the tail of the free list in chain
order and make every field of the record zero or absent; in every other state each is refused with WRONG_STATE (R12, R23). That
the phase of the freed record is DATA is the model's choice (assumption log 10). -/
def Obligations.DropAndReleaseFreeTheSlot : Prop :=
  ∀ (s : State) (op : Byte) (i : SlotId), op.toNat = i.val →
    let freed : State := { s with
      slots := s.slots.set i.val Slot.empty
      freeList := s.freeList ++ (s.slot i).chain
      status := .done
      statusSlot := none }
    let refused : State := { s with status := .wrongState, statusSlot := none }
    exec (.drop op) s = .next (if (s.slot i).state = .claimed then freed else refused) ∧
    exec (.release op) s = .next (if (s.slot i).state = .settled then freed else refused)

/-- POST accepted into QUEUED (R16, R27, R34): the record, the tail of the dispatch list of the class, and for a FETCH the blocks
at the head of the free list, cleared, in the order taken; the scheduler then looks at the line (R81). -/
def Obligations.PostQueuesTheSlot : Prop :=
  ∀ (s : State) (op : Byte) (i : SlotId) (q : StationState), op.toNat = i.val →
    (s.slot i).state = .claimed → (s.slot i).passesPost s.freeList.length →
    s.stationStateOf (s.slot i) = some q → q ∈ [StationState.probing, .online, .withdrawing] →
    let x := s.slot i
    let n := x.blocksTaken
    exec (.post op) s = .next (State.dispatch { s with
      slots := s.slots.set i.val { x with
        state := .queued
        phase := .data
        nextIndex := 0
        bytesMoved := 0
        retriesLeft := x.desc.retryAllowance.toNat
        retriesUsed := 0
        busyLeft := x.desc.busyAllowance.toNat
        busySeen := 0
        possiblyOpened := false
        inFlight := false
        ready := false
        lifetimeTimer := if x.desc.lifetime = 0 then none else some x.desc.lifetime.toNat
        chain := x.chain ++ s.freeList.take n }
      urgent := if x.desc.cls = .urgent then s.urgent ++ [i] else s.urgent
      normal := if x.desc.cls = .normal then s.normal ++ [i] else s.normal
      freeList := s.freeList.drop n
      mem := (s.freeList.take n).foldl Memory.clearBlock s.mem
      status := .done
      statusSlot := none })

/-- POST to an ABSENT or FAULTY station completes the slot at once, with NO_STATION or STATION_FAULT, no dispatch list, no
lifetime timer and no block kept, and coalesces its record (R15, R19, R20, R39, R164). That it sets retries left and busy left
is the model's reading (assumption log 11). -/
def Obligations.PostCompletesAtOnce : Prop :=
  ∀ (s : State) (op : Byte) (i : SlotId) (o : Ending), op.toNat = i.val →
    (s.slot i).state = .claimed → (s.slot i).passesPost s.freeList.length → s.unlinked i →
    (s.stationStateOf (s.slot i) = some .absent ∧ o = .noStation) ∨
      (s.stationStateOf (s.slot i) = some .faulty ∧ o = .stationFault) →
    let x := s.slot i
    exec (.post op) s = .next { State.coalesce { s with
        slots := s.slots.set i.val { x with
          state := .complete
          phase := .data
          nextIndex := 0
          bytesMoved := 0
          retriesLeft := x.desc.retryAllowance.toNat
          retriesUsed := 0
          busyLeft := x.desc.busyAllowance.toNat
          busySeen := 0
          possiblyOpened := false
          inFlight := false
          ready := false
          lifetimeTimer := none
          stopRequest := none
          pendingOutcome := none
          outcome := some o
          stationStatus := none
          lateStop := false
          abortUnconfirmed := false
          chain := [] }
        freeList := s.freeList ++ x.chain
        queue := s.queue ++ [
          { seq := s.seqCounter, slot := i, station := x.desc.station, kind := x.desc.kind, outcome := o
            bytesMoved := 0, short := x.short, stationStatus := none, retriesUsed := 0, busyReplies := 0
            lateStop := false, abortUnconfirmed := false }]
        seqCounter := s.seqCounter + 1
        unannounced := s.unannounced + 1 } with
      status := .done
      statusSlot := none }

/-- A stop request taken while the slot's frame is in flight is held, and nothing else changes: CANCEL, and the expiry of the
lifetime timer, which stops. The expiry at a slot that is ABORTING or already holds a stop request stops the timer and changes
nothing else (R142, R143, R145). -/
def Obligations.StopIsHeldOverAFrame : Prop :=
  ∀ (s : State) (i : SlotId),
    ((s.slot i).state ∈ [SlotState.queued, .opened, .parked] → (s.slot i).stopRequest = none →
      (s.slot i).inFlight = true →
      (∀ op : Byte, op.toNat = i.val →
        exec (.cancel op) s = .next (State.dispatch { s with
          slots := s.slots.set i.val { s.slot i with stopRequest := some .cancelled }
          status := .done
          statusSlot := none })) ∧
      ∀ n : Nat, (s.slot i).lifetimeTimer = some n →
        exec (.lifetimeExpiry i) s = .next (State.dispatch { s with
          slots := s.slots.set i.val { s.slot i with stopRequest := some .timedOut, lifetimeTimer := none } })) ∧
    ((s.slot i).state = .aborting ∨ (s.slot i).stopRequest ≠ none →
      ∀ n : Nat, (s.slot i).lifetimeTimer = some n →
        exec (.lifetimeExpiry i) s = .next { s with
          slots := s.slots.set i.val { s.slot i with lifetimeTimer := none } })

/-- A stop request taken with no frame of the slot in flight acts at once: a QUEUED slot that is not possibly opened completes
with the stop outcome, and a QUEUED, OPEN or PARKED slot that may hold station context goes to ABORTING with it pending and
leaves the parked list (R142, R143, R144, R149). -/
def Obligations.StopActsAtOnce : Prop :=
  ∀ (s : State) (i : SlotId) (st : StationId), (s.slot i).desc.stationId = some st →
    (s.slot i).stopRequest = none → (s.slot i).inFlight = false →
    let aborting (u : State) (o : Ending) : State := (u.modSlot i fun x =>
      { x with state := .aborting, pendingOutcome := some o, abortAttempts := 2, stopRequest := none
               ready := false }).leaveParked st i
    let expired : State := s.modSlot i fun x => { x with lifetimeTimer := none }
    ((s.slot i).state = .queued → (s.slot i).possiblyOpened = false →
      (∀ op : Byte, op.toNat = i.val →
        exec (.cancel op) s = .next (((s.complete i { outcome := .cancelled }).coalesce.answer .done).dispatch)) ∧
      (∀ n : Nat, (s.slot i).lifetimeTimer = some n →
        exec (.lifetimeExpiry i) s = .next ((expired.complete i { outcome := .timedOut }).coalesce.dispatch))) ∧
    (((s.slot i).state = .queued ∧ (s.slot i).possiblyOpened = true) ∨ (s.slot i).state = .opened ∨
        (s.slot i).state = .parked →
      (∀ op : Byte, op.toNat = i.val →
        exec (.cancel op) s = .next (((aborting s .cancelled).answer .done).dispatch)) ∧
      (∀ n : Nat, (s.slot i).lifetimeTimer = some n →
        exec (.lifetimeExpiry i) s = .next ((aborting expired .timedOut).dispatch)))

/-- POP takes the head record, makes its slot SETTLED, lowers the unannounced count to the records that remain and stops the
holdoff timer of an empty queue; on an empty queue it is refused with EMPTY (R22, R161). -/
def Obligations.PopTakesTheHead : Prop :=
  ∀ s : State,
    (∀ (head : Record) (rest : List Record), s.queue = head :: rest → (s.slot head.slot).state = .complete →
      exec .pop s = .next { s with
        queue := rest
        slots := s.slots.set head.slot.val { s.slot head.slot with state := .settled }
        unannounced := min s.unannounced rest.length
        holdoffTimer := if rest = [] then none else s.holdoffTimer
        status := .done
        statusSlot := some head.slot }) ∧
    (s.queue = [] → exec .pop s = .next { s with status := .empty, statusSlot := none })

/-! ## Station commands -/

/-- ENABLE_STATION makes a DISABLED, ABSENT or FAULTY station PROBING with its record made ready (R66); ENABLE_STATION and
DISABLE_STATION refuse a wrong state with WRONG_STATE (R66, R67) and an address of 0 or of 9 and above with BAD_OPERAND. -/
def Obligations.EnableStationAndRefusals : Prop :=
  ∀ (s : State) (op : Byte),
    ((op.toNat = 0 ∨ 9 ≤ op.toNat) → ∀ c ∈ [Instr.enableStation op, .disableStation op],
      exec c s = .next { s with status := .badOperand, statusSlot := none }) ∧
    ∀ st : StationId, op.toNat = st.val + 1 →
      ((s.station st).state ∈ [StationState.disabled, .absent, .faulty] →
        exec (.enableStation op) s = .next (State.dispatch { s with
          stations := s.stations.set st.val { s.station st with
            state := .probing
            probeAttempts := 3
            withdrawAttempts := 0
            parkDepth := 0
            failures := 0
            engaged := none
            parked := []
            backoff := none
            pollTimer := .stopped }
          status := .done
          statusSlot := none })) ∧
      ((s.station st).state ∈ [StationState.probing, .online, .withdrawing] →
        exec (.enableStation op) s = .next { s with status := .wrongState, statusSlot := none }) ∧
      ((s.station st).state ∈ [StationState.disabled, .withdrawing] →
        exec (.disableStation op) s = .next { s with status := .wrongState, statusSlot := none })

/-- DISABLE_STATION of a PROBING, ABSENT or FAULTY station makes it DISABLED with its change flag set and its failures 0, and its
QUEUED and ABORTING slots complete WITHDRAWN in walk order; in STARTING the link may pass to RUNNING in the same step (R67, R72,
R77, R175). That a FAULTY station's park depth stays is the model's choice (assumption log 20). -/
def Obligations.DisableStationAtOnce : Prop :=
  ∀ (s : State) (op : Byte) (st : StationId), op.toNat = st.val + 1 → s.listsMatch → s.stationsQuiet →
    (s.station st).state ∈ [StationState.probing, .absent, .faulty] →
    let ids := s.walkAt st [.queued, .aborting]
    ∃ u : State, exec (.disableStation op) s = .next u.dispatch ∧
      s.completesInOrder u ids (fun _ => .withdrawn) ∧ (∀ i, i ∉ ids → u.slot i = s.slot i) ∧
      u.station st = { s.station st with state := .disabled, probeAttempts := 0, failures := 0, changed := true } ∧
      (∀ v, v ≠ st → u.station v = s.station v) ∧
      s.linkPasses u ((s.station st).state = .probing ∧ s.frame = none ∧ s.noOtherProbe st) ∧
      u.frame = s.frame ∧ u.mem = s.mem ∧ u.status = .done ∧ u.statusSlot = none

/-- DISABLE_STATION of an ONLINE station begins a withdrawal: its engaged slot completes WITHDRAWN, its parked slots leave the list
with clear ready flags and stay PARKED, its slot's in-flight flag is cleared, and its timers stop. Every other slot of the
station, QUEUED or ABORTING, stands as before, a held stop request with it (R70). -/
def Obligations.DisableOnlineBeginsWithdrawal : Prop :=
  ∀ (s : State) (op : Byte) (st : StationId), op.toNat = st.val + 1 → s.listsMatch → s.engagement →
    (s.station st).state = .online →
    ∃ u : State, exec (.disableStation op) s = .next u.dispatch ∧
      s.completesInOrder u (s.station st).engaged.toList (fun _ => .withdrawn) ∧
      u.station st = { s.station st with
        state := .withdrawing
        withdrawAttempts := 2
        failures := 0
        backoff := none
        pollTimer := .stopped
        engaged := none
        parked := [] } ∧
      (∀ i ∈ (s.station st).parked, u.slot i = { s.slot i with ready := false }) ∧
      (∀ f ∈ s.frame, ∀ i ∈ f.slot, f.station = st → (u.slot i).inFlight = false) ∧
      (∀ i, (s.slot i).desc.stationId = some st → (s.station st).engaged ≠ some i → i ∉ (s.station st).parked →
        u.slot i = { s.slot i with
          inFlight := (s.slot i).inFlight && !s.frame.any fun f => decide (f.station = st ∧ f.slot = some i) }) ∧
      (∀ i, (s.slot i).desc.stationId ≠ some st → u.slot i = s.slot i) ∧
      (∀ v, v ≠ st → u.station v = s.station v) ∧
      u.frame = s.frame ∧ u.link = s.link ∧ u.mem = s.mem ∧ u.status = .done ∧ u.statusSlot = none

/-- A report of a frame to a slot whose in-flight flag a withdrawal has cleared is taken by no slot, and the WITHDRAWING station makes
no change to its record: the frame ends, the outcome is counted in the statistics and in the silent count, and nothing else
changes, so that a GIVE's payload is not stored (R24, R61, R70, R75, R101, R180). -/
def Obligations.DetachedReportsChangeNoSlot : Prop :=
  ∀ (s : State) (f : Frame) (i : SlotId), s.link = .running → s.frame = some f → f.slot = some i →
    (s.slot i).inFlight = false → (s.station f.station).state ≠ .online →
    f.kind ∉ [FrameKind.sync, .poll] →
    let ended (c : Instr) (stats : Stats) : State := { s with
      frame := none
      gapPassed := s.gapAfter f c
      receiver := .waiting
      silentCount := s.silentAfter c
      stats := stats }
    (∀ r : Reply, f.phase = .receiving → s.replyValid f r = true →
      (∀ payload, r = .give payload → payload.length ≤ 64) →
      exec r.command s = .next (ended r.command { s.stats with
        validReplies := s.stats.validReplies + 1
        waitReplies := if r = .wait then s.stats.waitReplies + 1 else s.stats.waitReplies })) ∧
    ∀ c : Instr, s.failsBy f c → s.keepsLink c →
      exec c s = .next ((ended c { s.stats with
        failedReplies := if c = .violationReply then s.stats.failedReplies else s.stats.failedReplies + 1 }).afterReport c)

/-! ## Link commands -/

/-- LINK_START from OFF and LINK_RESUME from SUSPENDED, with LINE_FAULT negated, enter STARTING with the silent count 0 and the
configured bit rate taken, or RUNNING at once when no station is to probe; otherwise they are refused (R174, R175, R183).
LINK_STOP waits in STOPPING for a frame in flight, passes to OFF at once with none and from SUSPENDED, by the stop or loss
step, and is refused in OFF and STOPPING (R176). LINE_FAULT taken as asserted is a link loss in STARTING, RUNNING and STOPPING
and changes nothing else in OFF and SUSPENDED; taken as negated it changes nothing else (R182). -/
def Obligations.LinkCommandsAndLineFault : Prop :=
  (∀ (s : State) (c : Instr) (from' : LinkState),
    (c = .linkStart ∧ from' = .off) ∨ (c = .linkResume ∧ from' = .suspended) →
    (s.link = from' → s.lineFault = false →
      let probed : Prop := s.frame = none ∧
        ∀ st : StationId, (s.station st).state ≠ .probing ∧ (s.station st).state ≠ .withdrawing
      (probed → exec c s = .next (State.dispatch { s with
        link := .running, linkCause := true, silentCount := 0, takenRate := s.cfg.bitRate
        status := .done, statusSlot := none })) ∧
      (¬ probed → exec c s = .next (State.dispatch { s with
        link := .starting, silentCount := 0, takenRate := s.cfg.bitRate
        status := .done, statusSlot := none }))) ∧
    (s.link ≠ from' ∨ s.lineFault = true →
      exec c s = .next { s with status := .linkState, statusSlot := none })) ∧
  ∀ s : State,
    (s.link ∈ [LinkState.starting, .running] → s.frame ≠ none →
      exec .linkStop s = .next { s with link := .stopping, status := .done, statusSlot := none }) ∧
    ((s.link ∈ [LinkState.starting, .running] ∧ s.frame = none) ∨ s.link = .suspended →
      exec .linkStop s = .next { (s.linkDown .off .stopped).announceSince s with
        status := .done, statusSlot := none }) ∧
    (s.link ∈ [LinkState.off, .stopping] →
      exec .linkStop s = .next { s with status := .linkState, statusSlot := none }) ∧
    (s.link ∈ [LinkState.starting, .running, .stopping] →
      exec .lineFaultAsserted s =
        .next (({ s with lineFault := true }.linkDown .suspended .linkLost).announceSince s)) ∧
    (s.link ∈ [LinkState.off, .suspended] → exec .lineFaultAsserted s = .next { s with lineFault := true }) ∧
    exec .lineFaultNegated s = .next { s with lineFault := false }

/-- The stop or loss step (R178, R179, R78): the frame in flight is abandoned, with the line released and high at once (R60); every
OPEN, PARKED and ABORTING slot, every QUEUED slot of a WITHDRAWING station and a QUEUED slot whose abandoned frame held a stop
request complete in walk order; every other QUEUED slot stays; the stations change by their state; LINK is set. The gap has passed
only where it had passed before with no frame in flight, in AWAITING or within the first byte of the reply, and that byte goes
on as one of a late reply (R47, R59, R60, assumption log 7). -/
def Obligations.StopOrLossStep : Prop :=
  ∀ (s : State) (target : LinkState) (o : Ending), s.listsMatch → s.stationsQuiet →
    let abandoned (i : SlotId) : Prop :=
      (s.slot i).inFlight = true ∧ (s.slot i).stopRequest.isSome = true ∧ ∃ f ∈ s.frame, f.slot = some i
    let withdrawing (i : SlotId) : Prop := s.stationStateOf (s.slot i) = some .withdrawing
    let ending (i : SlotId) : Ending :=
      if (s.slot i).state ≠ .queued then o
      else if s.stationStateOf (s.slot i) = some .withdrawing then .withdrawn
      else if (s.slot i).stopRequest = some .timedOut then .timedOut else .cancelled
    ∃ ids : List SlotId, ids.Sublist s.walkOrder ∧
      (∀ i ∈ s.walkOrder, i ∈ ids ↔
        ((s.slot i).state ∈ [SlotState.opened, .parked, .aborting] ∨
          ((s.slot i).state = .queued ∧ (withdrawing i ∨ abandoned i)))) ∧
      let u := s.linkDown target o
      s.completesInOrder u ids ending ∧
      (∀ i, i ∉ ids → u.slot i =
        if s.frame.bind Frame.slot = some i then { s.slot i with inFlight := false } else s.slot i) ∧
      u.link = target ∧ u.linkCause = true ∧ u.frame = none ∧ u.mem = s.mem ∧
      u.lineDE = false ∧ (∀ k, u.lineTx k = true) ∧
      let arriving (f : Frame) : Prop := f.phase = .receiving ∧ s.receiver = .firstByte
      (u.gapPassed = true ↔ s.gapPassed = true ∧ ∀ f ∈ s.frame, f.phase = .awaiting ∨ arriving f) ∧
      (s.frame = none → u.receiver = s.receiver) ∧
      (∀ f ∈ s.frame, (arriving f → u.receiver = .firstByte) ∧ (¬ arriving f → u.receiver = .waiting)) ∧
      ∀ st : StationId,
        ((s.station st).state = .online → u.station st = { s.station st with
          state := .probing, probeAttempts := 3, parkDepth := 0, failures := 0, engaged := none
          parked := [], backoff := none, pollTimer := .stopped }) ∧
        ((s.station st).state = .probing → u.station st = { s.station st with probeAttempts := 3 }) ∧
        ((s.station st).state = .withdrawing → u.station st = { s.station st with
          state := .disabled, withdrawAttempts := 0, parkDepth := 0, failures := 0, changed := true }) ∧
        ((s.station st).state ∈ [StationState.absent, .faulty, .disabled] → u.station st = s.station st)

/-- A report of a frame in STOPPING, by a reply of any kind, valid or failed, or by a silent timeout of any frame, takes the link to
OFF, or to SUSPENDED where a silent timeout of a frame other than SYNC brings the silent count to the link-loss threshold, which
takes a RUNNING link to SUSPENDED too; either sets LINK (R177, R180, R181). The effects of the report come first: a valid REFUSE
or RESULT completes its slot with its own outcome (R105, R114, R177). -/
def Obligations.ReportsThatTakeTheLinkDown : Prop :=
  ∀ (s : State) (f : Frame), s.frame = some f →
    (s.link = .stopping → f.phase = .receiving → ∀ c : Instr, endsByReply c →
      ∃ t, exec c s = .next t ∧ t.link = .off ∧ t.linkCause = true ∧ t.frame = none ∧ t.silentCount = 0 ∧
        s.queue <+: t.queue) ∧
    (s.link = .stopping → f.phase = .receiving → ∀ (i : SlotId) (v : Byte), f.slot = some i →
      (s.slot i).inFlight = true → (s.slot i).desc.stationId = some f.station → (s.slot i).offers f →
      (f.kind = .openReq → v ≠ 0 → ∃ t, exec (.refuse v) s = .next t ∧ (t.slot i).state = .complete ∧
        (t.slot i).outcome = some .refused ∧ (t.slot i).stationStatus = some v) ∧
      (f.kind = .finish → ∃ t, exec (.result v) s = .next t ∧ (t.slot i).state = .complete ∧
        (t.slot i).outcome = some (if v = 0 then .ok else .stationError) ∧
        (t.slot i).stationStatus = some v)) ∧
    (∀ n : Nat, s.link ∈ [LinkState.running, .stopping] → f.phase = .awaiting → f.replyTimer = some n →
      f.kind ≠ .sync → (s.link = .stopping ∨ s.cfg.linkLossThreshold ≤ s.silentCount + 1) →
      ∃ t, exec .replyTimeout s = .next t ∧ t.linkCause = true ∧ t.frame = none ∧
        t.silentCount = s.silentCount + 1 ∧ s.queue <+: t.queue ∧
        t.link = if s.cfg.linkLossThreshold ≤ s.silentCount + 1 then .suspended else .off) ∧
    ∀ n : Nat, s.link = .stopping → f.phase = .awaiting → f.replyTimer = some n → f.kind = .sync →
      ∃ t, exec .replyTimeout s = .next t ∧ t.link = .off ∧ t.linkCause = true ∧ t.frame = none ∧
        t.silentCount = s.silentCount

/-! ## Host writes -/

/-- A CMD write with a code outside the command table gives UNKNOWN_COMMAND (R189); a write of a word that takes none changes
nothing (R188). -/
def Obligations.UnknownCommandsAndIgnoredWrites : Prop :=
  ∀ s : State,
    (∀ code : Byte, code ∉ commandCodes →
      exec (.unknownCommand code) s = .next { s with status := .unknownCommand, statusSlot := none }) ∧
    ∀ (word : BitVec 5) (data : Word),
      word.toNat ∈ [1, 5, 6, 8, 9, 10, 11, 14, 17, 18, 19, 20, 21, 22, 23, 24, 25, 26, 27, 28, 29, 30, 31] →
      exec (.ignoredWrite word data) s = .next s

/-- A write of DESC0, DESC1 or DESC2 changes the fields of a CLAIMED selected slot and leaves the command status; in another
state it is ignored with WRONG_STATE; a length write above a fill cursor of 0 sets the fill error flag and FILL_ERROR
(R10, R11, R194, R195). -/
def Obligations.DescriptorAndLengthWrites : Prop :=
  ∀ (s : State) (data : Word),
    let x := s.slot s.selected
    let written (d : Descriptor) : State :=
      { s with slots := s.slots.set s.selected.val { x with desc := d } }
    (x.state = .claimed →
      exec (.descriptorWrite .desc0 data) s = .next (written { x.desc with
        station := data.extractLsb' 0 4
        kind := match (data.extractLsb' 4 2).toNat with
          | 1 => .store
          | 2 => .fetch
          | 3 => .control
          | _ => .noKind
        cls := if data.getLsbD 6 then .urgent else .normal
        retryAllowance := data.extractLsb' 8 3
        busyAllowance := data.extractLsb' 12 4
        function := data.extractLsb' 16 8 }) ∧
      exec (.descriptorWrite .desc1 data) s = .next (written { x.desc with
        selector := data.extractLsb' 0 16, lifetime := data.extractLsb' 16 12 }) ∧
      (x.fillCursor = 0 →
        exec (.lengthWrite data) s = .next (written { x.desc with length := data.extractLsb' 0 10 })) ∧
      (x.fillCursor ≠ 0 → exec (.lengthWrite data) s = .next { s with
        slots := s.slots.set s.selected.val { x with fillError := true }
        status := .fillError })) ∧
    (x.state ≠ .claimed →
      ∀ c ∈ [Instr.descriptorWrite .desc0 data, .descriptorWrite .desc1 data, .lengthWrite data],
        exec c s = .next { s with status := .wrongState })

/-- A data-window write is ignored with WRONG_STATE unless the selected slot is a CLAIMED STORE, and dropped with FILL_ERROR and the
fill error flag at the length, at 512 and where a new block is needed and none is free. Otherwise it takes a cleared block at
a block boundary, places the bytes below the length at the fill cursor, moves the cursor on by 4, and changes no other byte of
the pool (R29 to R32). -/
def Obligations.DataWindowWrite : Prop :=
  ∀ (s : State) (data : Word),
    let x := s.slot s.selected
    let c := x.fillCursor
    (x.state ≠ .claimed ∨ x.desc.kind ≠ .store →
      exec (.dataWindowWrite data) s = .next { s with status := .wrongState }) ∧
    (x.state = .claimed → x.desc.kind = .store →
      (x.len ≤ c ∨ 512 ≤ c ∨ (c % 32 = 0 ∧ s.freeList = [])) →
      exec (.dataWindowWrite data) s = .next { s with
        slots := s.slots.set s.selected.val { x with fillError := true }
        status := .fillError }) ∧
    (s.memoryCanonical → s.poolConserved → s.chainsFit → x.state = .claimed → x.desc.kind = .store →
      c < x.len → c < 512 → (c % 32 = 0 → s.freeList ≠ []) →
      ∃ t : State, exec (.dataWindowWrite data) s = .next t ∧
        let taken := if c % 32 = 0 then s.freeList.take 1 else []
        t = { s with
          slots := s.slots.set s.selected.val { x with chain := x.chain ++ taken, fillCursor := c + 4 }
          freeList := if c % 32 = 0 then s.freeList.drop 1 else s.freeList
          mem := t.mem } ∧
        (∀ k < 4, c + k < x.len →
          chainByte t.mem (x.chain ++ taken) (c + k) = data.extractLsb' (8 * k) 8) ∧
        (∀ p, p < c → chainByte t.mem (x.chain ++ taken) p = chainByte s.mem x.chain p) ∧
        (c % 32 = 0 → ∀ k < 32, 4 ≤ k ∨ x.len ≤ c + k → chainByte t.mem (x.chain ++ taken) (c + k) = 0) ∧
        ∀ a, (∀ b ∈ taken, a / 32 ≠ b.val) →
          (∀ k < 4, c + k < x.len → chainAddress (x.chain ++ taken) (c + k) ≠ some a) →
          t.mem.read a = s.mem.read a)

/-- A data-window read of a COMPLETE or SETTLED FETCH below bytes moved gives the word at the read cursor, with 0 for every byte at or
above bytes moved, and moves the cursor on by 4; every other read gives 0 and moves nothing (R37, R38). The word that a read
gives stands in `readData`, the model's own field (assumption log 9). -/
def Obligations.DataWindowRead : Prop :=
  ∀ s : State,
    let x := s.slot s.selected
    let byteAt (k : Nat) : Byte :=
      if x.readCursor + k < x.bytesMoved then chainByte s.mem x.chain (x.readCursor + k) else 0
    (x.state ∈ [SlotState.complete, .settled] → x.desc.kind = .fetch → x.readCursor < x.bytesMoved →
      exec .dataWindowRead s = .next { s with
        slots := s.slots.set s.selected.val { x with readCursor := x.readCursor + 4 }
        readData := byteAt 3 ++ byteAt 2 ++ byteAt 1 ++ byteAt 0 }) ∧
    (x.state ∉ [SlotState.complete, .settled] ∨ x.desc.kind ≠ .fetch ∨ x.bytesMoved ≤ x.readCursor →
      exec .dataWindowRead s = .next { s with readData := 0 })

/-- A CAUSE write clears, in one step, every cause and change flag written as 1, bit 1 clearing all eight flags, and the STATION
cause follows the flags; a MASK write replaces the three mask bits; a read of CAUSE shows each cause and flag whatever the
mask holds; the interrupt line is low exactly while a cause is set and unmasked (R168, R171, R192). -/
def Obligations.CauseAndMaskWrites : Prop :=
  ∀ (s : State) (data : Word),
    (∃ t : State, exec (.causeWrite data) s = .next t ∧
      t = { s with
        completionCause := s.completionCause && !data.getLsbD 0
        linkCause := s.linkCause && !data.getLsbD 2
        stations := t.stations } ∧
      (∀ st : StationId, t.station st = { s.station st with
        changed := (s.station st).changed && !data.getLsbD 1 && !data.getLsbD (8 + st.val) }) ∧
      (t.stationCause = true ↔ ∃ st : StationId,
        (s.station st).changed = true ∧ data.getLsbD 1 = false ∧ data.getLsbD (8 + st.val) = false)) ∧
    exec (.maskWrite data) s = .next { s with mask :=
      { completion := data.getLsbD 0, station := data.getLsbD 1, link := data.getLsbD 2 } } ∧
    (∀ m : CauseMask, let w := ({ s with mask := m } : State).readWord 12
      w.getLsbD 0 = s.completionCause ∧ w.getLsbD 1 = s.stationCause ∧ w.getLsbD 2 = s.linkCause ∧
        ∀ st : StationId, w.getLsbD (8 + st.val) = (s.station st).changed) ∧
    (s.stationCause = true ↔ ∃ st : StationId, (s.station st).changed = true) ∧
    (s.intN = false ↔ (s.completionCause = true ∧ s.mask.completion = true) ∨
      (s.stationCause = true ∧ s.mask.station = true) ∨ (s.linkCause = true ∧ s.mask.link = true))

/-- A write of CFG0 or CFG1 takes effect in its own step, each value held at the nearest end of its range; a write of CFG1 raises the
COMPLETION cause when the unannounced count is 1 or more and at or above the new threshold (R165, R166, R191). -/
def Obligations.ConfigurationWrites : Prop :=
  ∀ (s : State) (data : Word),
    let atLeast (lo n : Nat) : Nat := if n < lo then lo else n
    let atMost (hi n : Nat) : Nat := if hi < n then hi else n
    let field (lo width : Nat) : Nat := (data.toNat / 2 ^ lo) % 2 ^ width
    exec (.cfg0Write data) s = .next { s with cfg := { s.cfg with
      bitRate := match field 0 2 with
        | 0 => .kbit500
        | 1 => .mbit1
        | 2 => .mbit2
        | _ => .mbit4
      replyTimeout := atLeast 1 (field 8 8)
      linkLossThreshold := atLeast 2 (atMost 32 (field 16 6))
      faultThreshold := atLeast 1 (field 24 4) } } ∧
    let cfg : HostConfig := { s.cfg with
      backoffInterval := atLeast 1 (field 0 8)
      pollInterval := atLeast 1 (field 8 8)
      completionThreshold := atLeast 1 (atMost 16 (field 16 5))
      holdoff := field 24 8 }
    (1 ≤ s.unannounced → cfg.completionThreshold ≤ s.unannounced →
      exec (.cfg1Write data) s = .next { s with
        cfg := cfg, completionCause := true, unannounced := 0, holdoffTimer := none }) ∧
    (s.unannounced = 0 ∨ s.unannounced < cfg.completionThreshold →
      exec (.cfg1Write data) s = .next { s with cfg := cfg })

/-- SNAPSHOT copies the six counters into the six snapshot words, and SNAPSHOT_CLEAR makes the same copy and sets the counters to 0;
the words are read at 26 to 31 of the window (R187, R193). -/
def Obligations.SnapshotCommands : Prop :=
  ∀ s : State,
    let c := s.stats
    ∃ t u : State, exec .snapshot s = .next t ∧ exec .snapshotClear s = .next u ∧
      t = { s with snap := c, status := .done, statusSlot := none } ∧
      u = { t with stats :=
        { framesSent := 0, validReplies := 0, failedReplies := 0, lateReplies := 0, waitReplies := 0
          payloadBytes := 0 } } ∧
      ∀ v ∈ [t, u], v.readWord 26 = c.framesSent ∧ v.readWord 27 = c.validReplies ∧
        v.readWord 28 = c.failedReplies ∧ v.readWord 29 = c.lateReplies ∧
        v.readWord 30 = c.waitReplies ∧ v.readWord 31 = c.payloadBytes

/-- What the host reads of the command status, the selected slot, the head record and the queue: CMDST, DESC0 to DESC2, SLST0, SLST1,
CWIN0 to CWIN2 (0 for an empty queue) and QPST, each bit of each word (R2, R7, R160, R187, R190, R194, R195). -/
def Obligations.WindowReadsOfSlotsAndRecords : Prop :=
  ∀ s : State,
    let x := s.slot s.selected
    let d := x.desc
    let number (i : Option SlotId) : Nat := (i.map fun k => k.val).getD 0
    let value (v : Option Byte) : Nat := (v.map fun b => b.toNat).getD 0
    let kind (k : Kind) : Nat := [Kind.noKind, .store, .fetch, .control].idxOf k
    let outcome (o : Ending) : Nat := 1 + [Ending.ok, .stationError, .refused, .linkError, .busyLimit, .timedOut,
      .cancelled, .protocol, .stationFault, .noStation, .withdrawn, .linkLost, .stopped].idxOf o
    let status : Nat := [Status.done, .noSlot, .noSpace, .badDescriptor, .fillError, .wrongState, .badOperand,
      .stationDisabled, .linkState, .empty, .unknownCommand].idxOf s.status
    let state : Nat :=
      [SlotState.free, .claimed, .queued, .opened, .parked, .aborting, .complete, .settled].idxOf x.state
    s.readWord 1 = BitVec.ofNat 32
      (status + 2 ^ 8 * number s.statusSlot + 2 ^ 12 * s.statusSlot.isSome.toNat + 2 ^ 16 * s.selected.val) ∧
    s.readWord 2 = BitVec.ofNat 32
      (d.station.toNat + 2 ^ 4 * kind d.kind + 2 ^ 6 * (if d.cls = .urgent then 1 else 0) +
        2 ^ 8 * d.retryAllowance.toNat + 2 ^ 12 * d.busyAllowance.toNat + 2 ^ 16 * d.function.toNat) ∧
    s.readWord 3 = BitVec.ofNat 32 (d.selector.toNat + 2 ^ 16 * d.lifetime.toNat) ∧
    s.readWord 4 = BitVec.ofNat 32 d.length.toNat ∧
    s.readWord 5 = BitVec.ofNat 32
      (state + 2 ^ 3 * x.fillError.toNat + 2 ^ 4 * (x.chain.length % 32) + 2 ^ 16 * (x.fillCursor % 1024)) ∧
    s.readWord 6 = BitVec.ofNat 32
      (x.bytesMoved % 1024 + 2 ^ 12 * (x.outcome.map outcome).getD 0 + 2 ^ 16 * x.short.toNat +
        2 ^ 17 * x.lateStop.toNat + 2 ^ 18 * x.abortUnconfirmed.toNat + 2 ^ 19 * x.stationStatus.isSome.toNat +
        2 ^ 24 * value x.stationStatus) ∧
    (s.queue = [] → s.readWord 8 = 0 ∧ s.readWord 9 = 0 ∧ s.readWord 10 = 0) ∧
    (∀ (r : Record) (rest : List Record), s.queue = r :: rest →
      s.readWord 8 = BitVec.ofNat 32
        (r.seq.toNat + 2 ^ 8 * r.slot.val + 2 ^ 12 * r.station.toNat + 2 ^ 16 * kind r.kind +
          2 ^ 20 * outcome r.outcome + 2 ^ 31) ∧
      s.readWord 9 = BitVec.ofNat 32
        (r.bytesMoved % 1024 + 2 ^ 12 * r.short.toNat + 2 ^ 13 * r.lateStop.toNat +
          2 ^ 14 * r.abortUnconfirmed.toNat + 2 ^ 15 * r.stationStatus.isSome.toNat + 2 ^ 16 * value r.stationStatus) ∧
      s.readWord 10 = BitVec.ofNat 32 (r.retriesUsed % 8 + 2 ^ 8 * (r.busyReplies % 256))) ∧
    s.readWord 11 = BitVec.ofNat 32
      (s.queue.length % 32 + 2 ^ 8 * (s.unannounced % 32) + 2 ^ 16 * s.seqCounter.toNat +
        2 ^ 24 * (s.freeList.length % 256))

/-- What the host reads of the mask, the link, the configuration and the stations: MASK, LNST, CFG0, CFG1 and STN1 to STN8, each bit of
each word; CMD and word 25 read as 0, DWIN gives the word that its read returns, and a read of DWIN alone is a command (R79,
R185, R187, R188, R190, R191, R194, R195). -/
def Obligations.WindowReadsOfLinkAndStations : Prop :=
  (∀ word : BitVec 5, decodeHostRead word = if word.toNat = 7 then some .dataWindowRead else none) ∧
  ∀ s : State,
    s.readWord 0 = 0 ∧ s.readWord 25 = 0 ∧
    (∀ t, exec .dataWindowRead s = .next t → s.readWord 7 = t.readData) ∧
    s.readWord 13 = BitVec.ofNat 32
      (s.mask.completion.toNat + 2 * s.mask.station.toNat + 2 ^ 2 * s.mask.link.toNat) ∧
    s.readWord 14 = BitVec.ofNat 32
      ([LinkState.off, .starting, .running, .stopping, .suspended].idxOf s.link + 2 ^ 4 * s.lineFault.toNat +
        2 ^ 8 * (s.silentCount % 64)) ∧
    s.readWord 15 = BitVec.ofNat 32
      ([BitRate.kbit500, .mbit1, .mbit2, .mbit4].idxOf s.cfg.bitRate + 2 ^ 8 * (s.cfg.replyTimeout % 256) +
        2 ^ 16 * (s.cfg.linkLossThreshold % 64) + 2 ^ 24 * (s.cfg.faultThreshold % 16)) ∧
    s.readWord 16 = BitVec.ofNat 32
      (s.cfg.backoffInterval % 256 + 2 ^ 8 * (s.cfg.pollInterval % 256) +
        2 ^ 16 * (s.cfg.completionThreshold % 32) + 2 ^ 24 * (s.cfg.holdoff % 256)) ∧
    ∀ (st : StationId) (word : BitVec 5), word.toNat = 17 + st.val →
      let r := s.station st
      s.readWord word = BitVec.ofNat 32
        ([StationState.disabled, .probing, .online, .absent, .faulty, .withdrawing].idxOf r.state +
          2 ^ 4 * (r.parkDepth % 4) + 2 ^ 8 * (r.failures % 16) +
          2 ^ 12 * (r.engaged.map fun k => k.val).getD 0 + 2 ^ 16 * r.engaged.isSome.toNat +
          2 ^ 20 * (r.parked.length % 4) + 2 ^ 24 * r.backoff.isSome.toNat +
          2 ^ 25 * (if r.pollTimer = .expired then 1 else 0))

/-! ## The scheduler -/

/-- The order of choice in RUNNING: the ABORT owed for the first slot in walk order, else the SYNC owed to the lowest address, else the
POLL due to the lowest address out of backoff, else the first slot of the walk that can send (R85 to R92). In STARTING the
choice is the SYNC owed to the lowest address alone, and in every other link state there is none (R82, R94). Nothing is sent
without a choice, while a frame is in flight, or before the gap has passed (R80). -/
def Obligations.OrderOfChoice : Prop :=
  (∀ s : State, s.link = .running →
    let owed (i : SlotId) : Prop := (s.slot i).state = .aborting ∧ s.stationStateOf (s.slot i) = some .online
    let sync (st : StationId) : Prop :=
      (s.station st).state = .probing ∨ (s.station st).state = .withdrawing
    let due (st : StationId) : Prop :=
      (s.station st).state = .online ∧ (s.station st).pollTimer = .expired ∧ (s.station st).backoff = none
    let serves (i : SlotId) (st : StationId) : Prop :=
      (s.slot i).desc.stationId = some st ∧ (s.station st).state = .online ∧ (s.station st).backoff = none ∧
        (s.slot i).nextFrame ≠ none
    let room (st : StationId) : Prop := (s.station st).parked.length < (s.station st).parkDepth ∨
      ((s.station st).parkDepth = 0 ∧ (s.station st).parked = [])
    let sends (i : SlotId) : Prop := ∃ st, serves i st ∧
      ((s.slot i).state = .opened ∨
        ((s.slot i).state = .queued ∧ (s.station st).engaged = none ∧ room st))
    let resumes (i : SlotId) : Prop := ∃ st, serves i st ∧ (s.slot i).state = .parked ∧
      (s.slot i).ready = true ∧ (s.station st).engaged = none
    (∀ front i rest, s.walkOrder = front ++ i :: rest → owed i → (∀ j ∈ front, ¬ owed j) →
      s.choose = some (.slotFrame i)) ∧
    ((∀ i ∈ s.walkOrder, ¬ owed i) →
      (∀ st, sync st → (∀ v, v < st → ¬ sync v) → s.choose = some (.sync st)) ∧
      ((∀ st, ¬ sync st) →
        (∀ st, due st → (∀ v, v < st → ¬ due v) → s.choose = some (.poll st)) ∧
        ((∀ st, ¬ due st) →
          (∀ front i rest, s.walkOrder = front ++ i :: rest → (∀ j ∈ front, ¬ sends j ∧ ¬ resumes j) →
            (sends i → s.choose = some (.slotFrame i)) ∧ (resumes i → s.choose = some (.resume i))) ∧
          ((∀ i ∈ s.walkOrder, ¬ sends i ∧ ¬ resumes i) → s.choose = none))))) ∧
  ∀ s : State,
    (s.link = .starting →
      (∀ st : StationId, (s.station st).owesSync = true → (∀ v, v < st → (s.station v).owesSync = false) →
        s.choose = some (.sync st)) ∧
      ((∀ st : StationId, (s.station st).owesSync = false) → s.choose = none)) ∧
    (s.link ∈ [LinkState.off, .stopping, .suspended] → s.choose = none) ∧
    (s.choose = none ∨ s.frame ≠ none ∨ s.gapPassed = false → s.dispatch = s)

/-- The step of choosing an OPEN (R49, R51, R95, R103): the frame in flight is in SENDING with the bytes of R48, the slot's
in-flight and possibly opened flags are set, the gap is to pass again and frames sent rises by 1. The step of choosing a
resumption: the slot leaves the parked list, is OPEN and engaged with its ready flag clear, the poll timer stands where it
fitted the poll condition, and its parked frame enters SENDING again with its progress as it was and the bytes of its segment
(R76, R91, R131). A SEND carries its segment of the chain, a PULL, FINISH, ABORT, SYNC and POLL no payload, and a POLL's
choice holds the poll timer (R35, R51, R107, R127). The bytes of the frame stand in the model's own field (assumption log 16),
and how the gap and the receiver are held is assumption log 7. -/
def Obligations.ChosenFramesEnterSending : Prop :=
  (∀ (s : State) (i : SlotId) (st : StationId), s.frame = none → s.gapPassed = true →
    s.choose = some (.slotFrame i) → (s.slot i).state = .queued → (s.slot i).desc.stationId = some st →
    let x := s.slot i
    let sel := x.desc.selector
    let len := x.desc.length
    s.dispatch = { s with
      slots := s.slots.set i.val { x with inFlight := true, possiblyOpened := true }
      frame := some
        { kind := .openReq, station := st, slot := some i, index := 0, phase := .sending, replyTimer := none
          bytes := frameBytes [BitVec.ofNat 8 (st.val + 1), 2, BitVec.ofNat 8 i.val, x.desc.function, 5,
            BitVec.ofNat 8 x.desc.kind.code, sel.extractLsb' 0 8, sel.extractLsb' 8 8,
            len.extractLsb' 0 8, BitVec.ofNat 8 (len.toNat / 256)] }
      gapPassed := false
      receiver := .waiting
      stats := { s.stats with framesSent := s.stats.framesSent + 1 } }) ∧
  (∀ (s : State) (i : SlotId) (st : StationId) (kind : FrameKind) (index : Nat) (code : Byte), s.frame = none →
    s.gapPassed = true → s.choose = some (.slotFrame i) → (s.slot i).state ∈ [SlotState.opened, .aborting] →
    (s.slot i).desc.stationId = some st → (s.slot i).nextFrame = some (kind, index) →
    (kind, code) ∈ [(FrameKind.send, (3 : Byte)), (.pull, 4), (.finish, 5), (.abort, 7)] →
    let x := s.slot i
    let payload : List Byte :=
      if kind = .send then chainBytes s.mem x.chain (64 * index) (min 64 (x.len - 64 * index)) else []
    s.dispatch = { s with
      slots := s.slots.set i.val { x with inFlight := true }
      frame := some
        { kind := kind, station := st, slot := some i, index := index, phase := .sending, replyTimer := none
          bytes := frameBytes ([BitVec.ofNat 8 (st.val + 1), code, BitVec.ofNat 8 (i.val + 16 * index), 0,
            BitVec.ofNat 8 payload.length] ++ payload) }
      gapPassed := false
      receiver := .waiting
      stats := { s.stats with framesSent := s.stats.framesSent + 1 } }) ∧
  (∀ (s : State) (st : StationId), s.frame = none → s.gapPassed = true →
    let sent (kind : FrameKind) (code : Byte) (stations : Vector Station 8) : State := { s with
      stations := stations
      frame := some
        { kind := kind, station := st, slot := none, index := 0, phase := .sending, replyTimer := none
          bytes := frameBytes [BitVec.ofNat 8 (st.val + 1), code, 0, 0, 0] }
      gapPassed := false
      receiver := .waiting
      stats := { s.stats with framesSent := s.stats.framesSent + 1 } }
    (s.choose = some (.sync st) → s.dispatch = sent .sync 1 s.stations) ∧
    (s.choose = some (.poll st) →
      s.dispatch = sent .poll 6 (s.stations.set st.val { s.station st with pollTimer := .held }))) ∧
  ∀ (s : State) (i : SlotId) (st : StationId) (kind : FrameKind) (index : Nat) (code : Byte), s.frame = none →
    s.gapPassed = true → s.choose = some (.resume i) → (s.slot i).state = .parked →
    (s.slot i).desc.stationId = some st → s.parkedFits st → i ∈ (s.station st).parked →
    (s.slot i).nextFrame = some (kind, index) →
    (kind, code) ∈ [(FrameKind.send, (3 : Byte)), (.pull, 4), (.finish, 5)] →
    let x := s.slot i
    let payload : List Byte :=
      if kind = .send then chainBytes s.mem x.chain (64 * index) (min 64 (x.len - 64 * index)) else []
    let t := s.dispatch
    t = { s with
      slots := s.slots.set i.val { x with state := .opened, ready := false, inFlight := true }
      stations := t.stations
      frame := some
        { kind := kind, station := st, slot := some i, index := index, phase := .sending, replyTimer := none
          bytes := frameBytes ([BitVec.ofNat 8 (st.val + 1), code, BitVec.ofNat 8 (i.val + 16 * index), 0,
            BitVec.ofNat 8 payload.length] ++ payload) }
      gapPassed := false
      receiver := .waiting
      stats := { s.stats with framesSent := s.stats.framesSent + 1 } } ∧
    t.station st = { s.station st with
      engaged := some i
      parked := (s.station st).parked.filter (fun j => decide (j ≠ i))
      pollTimer := (t.station st).pollTimer } ∧
    (s.pollFits st → (t.station st).pollTimer = (s.station st).pollTimer) ∧
    ∀ v, v ≠ st → t.station v = s.station v

/-! ## Events of the line and of the timers -/

/-- The end of the gap with no frame in flight makes the line idle and lets the scheduler choose in the same step, and cannot come in
SENDING or once a byte of an open received frame has been received; the end of a sending starts the reply timer; the beginning
of a reply stops it and opens a received frame. A start bit of a late reply opens a received frame and leaves the gap as it
stands, and once its first byte has been received the line is out of the idle condition; a late reply that ends is counted,
holds the line so until 4 byte-times after its last byte, and reaches no slot, station or link (R46, R47, R52, R53, R59, R61,
R80). A running backoff timer that runs out stops and a running poll timer that runs out is expired, at the station of the
address alone, and the scheduler may choose in the same step; the holdoff timer's expiry stops it and raises the COMPLETION
cause when a record is unannounced (R75, R76, R81, R165). How the gap and the receiver are held, and which row a late start bit
is, is assumption log 7, and how a timer is held log 3. -/
def Obligations.LineAndTimerEvents : Prop :=
  ∀ s : State,
    (s.frame = none → s.receiver ≠ .frameOpen →
      exec .interFrameGapEnd s = .next (State.dispatch { s with gapPassed := true })) ∧
    (s.receiver = .frameOpen ∨ (∃ f, s.frame = some f ∧ f.phase = .sending) → exec .interFrameGapEnd s = .next s) ∧
    ((∀ f ∈ s.frame, f.phase = .receiving) →
      (s.receiver = .waiting → exec .replyBegins s = .next { s with receiver := .firstByte }) ∧
      (s.receiver = .firstByte →
        exec .replyBegins s = .next { s with gapPassed := false, receiver := .frameOpen }) ∧
      (s.receiver = .frameOpen → exec .replyBegins s = .next s)) ∧
    (∀ f : Frame, s.frame = some f →
      (f.phase = .sending → exec .frameSent s = .next { s with
        frame := some { f with phase := .awaiting, replyTimer := some s.cfg.replyTimeout } }) ∧
      (f.phase = .awaiting →
        exec .replyBegins s = .next { s with
          frame := some { f with phase := .receiving, replyTimer := none }
          receiver := .firstByte }) ∧
      (f.phase ≠ .sending → s.receiver ≠ .frameOpen →
        exec .interFrameGapEnd s = .next { s with gapPassed := true }) ∧
      (f.phase = .sending → exec .replyBegins s = .next s)) ∧
    ((∀ f ∈ s.frame, f.phase = .sending) → exec .lateReply s = .next { s with
      gapPassed := false
      receiver := .waiting
      stats := { s.stats with lateReplies := s.stats.lateReplies + 1 } }) ∧
    (∀ (a : BitVec 4) (st : StationId), a.toNat = st.val + 1 →
      ((s.station st).backoff ≠ none → exec (.backoffExpiry a) s = .next (State.dispatch { s with
        stations := s.stations.set st.val { s.station st with backoff := none } })) ∧
      (∀ n : Nat, (s.station st).pollTimer = .running n →
        exec (.pollTimerExpiry a) s = .next (State.dispatch { s with
          stations := s.stations.set st.val { s.station st with pollTimer := .expired } }))) ∧
    ∀ n : Nat, s.holdoffTimer = some n →
      exec .holdoffExpiry s = .next { s with
        holdoffTimer := none
        completionCause := s.completionCause || decide (1 ≤ s.unannounced)
        unannounced := 0 }

/-! ## Replies to an exchange's frames -/

/-- A valid ACCEPT opens a QUEUED slot: it is OPEN and engaged, in phase DATA or, for a CONTROL, FINISHING (R104). A valid PARK makes
an OPEN slot PARKED at the tail of its station's parked list with its ready flag clear, empties the engaged field, and starts
a stopped poll timer (R76, R116). -/
def Obligations.AcceptAndPark : Prop :=
  ∀ (s : State) (f : Frame) (i : SlotId), s.receives f i → (s.slot i).offers f →
    (s.slot i).stopRequest = none →
    let r := s.station f.station
    let t := s.replyTaken f i
    (f.kind = .openReq → exec .accept s = .next { t with
      slots := t.slots.set i.val { s.slot i with
        inFlight := false
        state := .opened
        phase := if (s.slot i).desc.kind = .control then .finishing else .data
        nextIndex := 0
        bytesMoved := 0 }
      stations := t.stations.set f.station.val { r with failures := 0, engaged := some i } }) ∧
    (f.kind ≠ .openReq → r.parked.length < r.parkDepth → exec .park s = .next { t with
      slots := t.slots.set i.val { s.slot i with state := .parked, ready := false, inFlight := false }
      stations := t.stations.set f.station.val { r with
        failures := 0
        engaged := none
        parked := r.parked ++ [i]
        pollTimer := if r.pollTimer = .stopped then .running s.cfg.pollInterval else r.pollTimer } })

/-- A valid REFUSE completes a QUEUED slot REFUSED with the reason as its station status, and a valid RESULT completes an OPEN slot
OK or STATION_ERROR with the status; a held stop request sets the late-stop flag (R105, R114, R146). A valid DONE completes an
ABORTING slot with its pending outcome, no station status and no flag set (R151). -/
def Obligations.ClosingRepliesComplete : Prop :=
  (∀ (s : State) (f : Frame) (i : SlotId) (v : Byte), s.receives f i → (s.slot i).offers f →
    let late : Bool := (s.slot i).stopRequest.isSome
    (f.kind = .openReq → v ≠ 0 →
      exec (.refuse v) s = .next ((((s.replyTaken f i).modSlot i fun x =>
        { x with possiblyOpened := false }).complete i
          { outcome := .refused, stationStatus := some v, lateStop := late }).coalesce)) ∧
    (f.kind = .finish →
      exec (.result v) s = .next (((s.replyTaken f i).complete i
        { outcome := if v = 0 then .ok else .stationError, stationStatus := some v
          lateStop := late }).coalesce))) ∧
  ∀ (s : State) (f : Frame) (i : SlotId) (o : Ending), s.receives f i → f.kind = .abort → f.index = 0 →
    (s.slot i).state = .aborting → (s.slot i).pendingOutcome = some o →
    exec .done s = .next (((s.replyTaken f i).complete i { outcome := o }).coalesce)

/-- A valid TAKEN counts the segment's bytes, moves the next index on, and ends the data phase when the length is reached (R99,
R108, R120). A valid GIVE of `p` bytes stores and counts them, moves the next index on, ends the data phase when it is short
or fills the length, and then sets the short flag when bytes moved is below the length (R111, R112, R120). -/
def Obligations.DataRepliesCountTheBytes : Prop :=
  ∀ (s : State) (f : Frame) (i : SlotId), s.receives f i → (s.slot i).offers f →
    (s.slot i).stopRequest = none →
    let x := s.slot i
    let t := s.replyTaken f i
    (f.kind = .send →
      let n := min 64 (x.len - 64 * x.nextIndex)
      exec .taken s = .next { t with
        slots := t.slots.set i.val { x with
          inFlight := false
          bytesMoved := x.bytesMoved + n
          nextIndex := x.nextIndex + 1
          phase := if x.bytesMoved + n = x.len then .finishing else .data }
        stats := { t.stats with payloadBytes := t.stats.payloadBytes + BitVec.ofNat 32 n } }) ∧
    ∀ payload : List Byte, f.kind = .pull → payload.length ≤ 64 → payload.length ≤ x.len - x.bytesMoved →
      let p := payload.length
      let moved := x.bytesMoved + p
      exec (.give payload) s = .next { t with
        slots := t.slots.set i.val { x with
          inFlight := false
          bytesMoved := moved
          nextIndex := x.nextIndex + 1
          phase := if p < 64 ∨ moved = x.len then .finishing else .data
          short := x.short || decide (p < 64 ∧ moved < x.len) }
        mem := chainPutAll s.mem x.chain (64 * x.nextIndex) payload
        stats := { t.stats with payloadBytes := t.stats.payloadBytes + BitVec.ofNat 32 p } }

/-- Bytes stored on a chain of distinct blocks from an offset read back at their offsets, every other offset of the chain and every
pool address outside it read as before, and the memory keeps its form (R29, R36). -/
def Obligations.ChainStoreReadsBack : Prop :=
  ∀ (m : Memory) (chain : List BlockId) (off : Nat) (bytes : List Byte), m.wf → chain.Nodup →
    off + bytes.length ≤ 32 * chain.length →
    let u := chainPutAll m chain off bytes
    u.wf ∧ chainBytes u chain off bytes.length = bytes ∧
    (∀ p, p < off ∨ off + bytes.length ≤ p → chainByte u chain p = chainByte m chain p) ∧
    ∀ a, (∀ k < bytes.length, chainAddress chain (off + k) ≠ some a) → u.read a = m.read a

/-- A valid WAIT raises busy replies seen, held at 255, lowers a busy allowance that is not unlimited, keeps or clears the possibly opened
flag of an OPEN's slot and starts the backoff timer; the slot sends the same frame again while the allowance lasts (R75, R106,
R118, R140). The WAIT that uses it up ends the slot: BUSY_LIMIT at once for a QUEUED slot that is not possibly opened after it,
ABORTING with BUSY_LIMIT pending otherwise, an OPEN slot keeping the engaged field (R141). -/
def Obligations.WaitAndTheBusyLimit : Prop :=
  ∀ (s : State) (f : Frame) (i : SlotId), s.receives f i → (s.slot i).offers f →
    (s.slot i).stopRequest = none →
    let x := s.slot i
    let t := s.replyTaken f i
    let runsOut : Prop := x.desc.busyAllowance ≠ 0 ∧ x.busyLeft = 1
    let opened : Bool := if f.kind = .openReq ∧ x.retriesUsed = 0 then false else x.possiblyOpened
    let u : State := { t with
      slots := t.slots.set i.val { x with
        inFlight := false
        busySeen := min 255 (x.busySeen + 1)
        busyLeft := if x.desc.busyAllowance = 0 then x.busyLeft else x.busyLeft - 1
        possiblyOpened := opened }
      stations := t.stations.set f.station.val { s.station f.station with
        failures := 0, backoff := some s.cfg.backoffInterval }
      stats := { t.stats with waitReplies := t.stats.waitReplies + 1 } }
    (¬ runsOut → exec .wait s = .next u) ∧
    (runsOut → f.kind = .openReq → opened = false →
      exec .wait s = .next ((u.complete i { outcome := .busyLimit }).coalesce)) ∧
    (runsOut → (f.kind ≠ .openReq ∨ opened = true) → i ∉ (s.station f.station).parked →
      exec .wait s = .next (u.modSlot i fun y =>
        { y with
          state := .aborting
          pendingOutcome := some .busyLimit
          abortAttempts := 2
          stopRequest := none
          ready := false }))

/-- A valid NOTHING changes no ready flag, and a valid READY sets that of the slot it names; the POLL's end then starts the poll timer
again from the full interval while a parked slot's flag is clear, and stops it otherwise (R72, R76, R127, R128). -/
def Obligations.PollReplies : Prop :=
  ∀ (s : State) (f : Frame), s.link = .running → s.frame = some f → f.phase = .receiving → f.kind = .poll →
    f.slot = none → (s.station f.station).state = .online → (s.station f.station).pollTimer = .held →
    let r := s.station f.station
    let ended (slots : Vector Slot 16) (waits : SlotId → Bool) : State := { s with
      frame := none
      gapPassed := false
      receiver := .waiting
      silentCount := 0
      stats := { s.stats with validReplies := s.stats.validReplies + 1 }
      slots := slots
      stations := s.stations.set f.station.val { r with
        failures := 0
        pollTimer := if r.parked.any waits then .running s.cfg.pollInterval else .stopped } }
    exec .nothing s = .next (ended s.slots fun i => !(s.slot i).ready) ∧
    ∀ tag : SlotId, tag ∈ r.parked →
      exec (.ready tag) s = .next (ended (s.slots.set tag.val { s.slot tag with ready := true })
        fun i => decide (i ≠ tag) && !(s.slot i).ready)

/-- A failed POLL, garbled, violating or silent, changes no ready flag and counts a failure of the station. Below the threshold its
end starts the poll timer again while a parked slot's flag is clear, and stops it otherwise; at the threshold the fault step is
taken with no causing slot, and every slot of the station completes STATION_FAULT in walk order (R72, R73, R74, R76, R128,
R180). Whether the gap has passed at a timeout is computed as assumption log 7 says. -/
def Obligations.FailedPolls : Prop :=
  ∀ (s : State) (f : Frame) (c : Instr), s.link = .running → s.failsBy f c → f.kind = .poll → f.slot = none →
    (s.station f.station).state = .online → (s.station f.station).pollTimer = .held → s.keepsLink c →
    let st := f.station
    let r := s.station st
    let failed (stations : Vector Station 8) : State := { s with
      frame := none
      gapPassed := s.gapAfter f c
      receiver := .waiting
      silentCount := s.silentAfter c
      stats := { s.stats with
        failedReplies := if c = .violationReply then s.stats.failedReplies else s.stats.failedReplies + 1 }
      stations := stations }
    (r.failures + 1 < s.cfg.faultThreshold →
      exec c s = .next ((failed (s.stations.set st.val { r with
        failures := r.failures + 1
        pollTimer := if r.parked.any (fun i => !(s.slot i).ready) then .running s.cfg.pollInterval
          else .stopped })).afterReport c)) ∧
    (s.cfg.faultThreshold ≤ r.failures + 1 → s.listsMatch →
      let ids := s.walkAt st [.queued, .opened, .parked, .aborting]
      ∃ u : State, exec c s = .next (u.afterReport c) ∧ s.completesInOrder u ids (fun _ => .stationFault) ∧
        (∀ i, i ∉ ids → u.slot i = s.slot i) ∧
        u.station st = { r with
          state := .faulty, engaged := none, parked := [], backoff := none, pollTimer := .stopped
          failures := r.failures + 1, changed := true } ∧
        (∀ v, v ≠ st → u.station v = s.station v) ∧ u.frame = none ∧ u.silentCount = s.silentAfter c)

/-- A valid PRESENT makes a PROBING station ONLINE with the given park depth; its ABORTING slots complete with their pending outcomes in
walk order and its QUEUED slots are no longer possibly opened (R68, R77). In STARTING the link passes to RUNNING at the report
once no station is left to probe (R175). -/
def Obligations.PresentBringsTheStationOnline : Prop :=
  ∀ (s : State) (f : Frame) (d : Byte) (pending : SlotId → Ending), s.listsMatch → s.stationsQuiet →
    s.link ∈ [LinkState.starting, .running] → s.frame = some f → f.phase = .receiving → f.kind = .sync →
    f.slot = none → (s.station f.station).state = .probing → d.toNat ≤ 3 →
    (∀ i, (s.slot i).state = .aborting → (s.slot i).pendingOutcome = some (pending i)) →
    let st := f.station
    let ids := s.walkAt st [.aborting]
    ∃ t : State, exec (.present d) s = .next t ∧ s.completesInOrder t ids pending ∧
      (∀ i ∈ ids, (t.slot i).abortUnconfirmed = false) ∧
      t.station st = { s.station st with
        state := .online, parkDepth := d.toNat, failures := 0, probeAttempts := 0, changed := true } ∧
      (∀ i ∈ s.walkAt st [.queued], t.slot i = { s.slot i with possiblyOpened := false }) ∧
      (∀ i, i ∉ s.walkAt st [.queued, .aborting] → t.slot i = s.slot i) ∧
      (∀ v, v ≠ st → t.station v = s.station v) ∧ t.frame = none ∧ t.gapPassed = false ∧ t.silentCount = 0 ∧
      s.linkPasses t (s.noOtherProbe st)

/-! ## Replies that fail -/

/-- A silent or garbled reply to a QUEUED or OPEN slot's frame, without a fault step and with no stop held, uses a retry and leaves the
slot to send the same frame again, and with no retry left completes the slot LINK_ERROR (R72, R136, R137, R180). A violation
sends the slot to ABORTING with PROTOCOL pending and no retry, and it keeps the engaged field if it has it (R139, R149).
Whether the gap has passed at a timeout is computed as assumption log 7 says. -/
def Obligations.FailedRepliesOfASlot : Prop :=
  ∀ (s : State) (f : Frame) (i : SlotId) (c : Instr), s.serves f i → s.failsBy f c → s.keepsLink c →
    (s.slot i).offers f → (s.slot i).stopRequest = none →
    (s.station f.station).failures + 1 < s.cfg.faultThreshold →
    let u := s.failureTaken f i (decide (c = .violationReply)) (s.gapAfter f c) (s.silentAfter c)
    (c ≠ .violationReply → 0 < (s.slot i).retriesLeft →
      exec c s = .next ((u.modSlot i fun x =>
        { x with retriesLeft := x.retriesLeft - 1, retriesUsed := x.retriesUsed + 1 }).afterReport c)) ∧
    (c ≠ .violationReply → (s.slot i).retriesLeft = 0 →
      exec c s = .next (((u.complete i { outcome := .linkError }).coalesce).afterReport c)) ∧
    (c = .violationReply → i ∉ (s.station f.station).parked →
      exec c s = .next (u.modSlot i fun x =>
        { x with
          state := .aborting
          pendingOutcome := some .protocol
          abortAttempts := 2
          stopRequest := none
          ready := false }))

/-- A reply whose kind the frame in flight does not allow, or whose fields fail a check of R57, is taken as a violation is, and a GIVE of
more than 64 bytes as a garbled reply is (R55, R56, R57; assumption log 6). -/
def Obligations.InvalidRepliesAreViolations : Prop :=
  ∀ (s : State) (f : Frame), s.frame = some f → f.phase = .receiving →
    (∀ d : Byte, (f.kind ≠ .sync ∨ 3 < d.toNat) → exec (.present d) s = exec .violationReply s) ∧
    (f.kind ≠ .openReq → exec .accept s = exec .violationReply s) ∧
    (∀ r : Byte, (f.kind ≠ .openReq ∨ r = 0) → exec (.refuse r) s = exec .violationReply s) ∧
    (f.kind ≠ .send → exec .taken s = exec .violationReply s) ∧
    (∀ payload : List Byte, payload.length ≤ 64 →
      (f.kind ≠ .pull ∨ ∀ i ∈ f.slot, (s.slot i).len - (s.slot i).bytesMoved < payload.length) →
      exec (.give payload) s = exec .violationReply s) ∧
    (∀ payload : List Byte, 64 < payload.length → exec (.give payload) s = exec .garbledReply s) ∧
    (f.kind ≠ .finish → ∀ v : Byte, exec (.result v) s = exec .violationReply s) ∧
    (f.kind ∈ [FrameKind.sync, .poll, .abort] → exec .wait s = exec .violationReply s) ∧
    (f.kind ∈ [FrameKind.sync, .openReq, .poll, .abort] ∨
        (s.station f.station).parkDepth ≤ (s.station f.station).parked.length →
      exec .park s = exec .violationReply s) ∧
    (f.kind ≠ .poll → exec .nothing s = exec .violationReply s) ∧
    (∀ tag : SlotId, (f.kind ≠ .poll ∨ tag ∉ (s.station f.station).parked) →
      exec (.ready tag) s = exec .violationReply s) ∧
    (f.kind ≠ .abort → exec .done s = exec .violationReply s)

/-- A stop request held over a frame is resolved at its report. By a valid reply that does not close the exchange its movement is
taken: the engaged slot, phase, next index, bytes moved, short flag, pool bytes, payload bytes counter and busy counts as the
reply gives them; by a failed reply nothing moves and no retry is counted. The slot then goes to ABORTING with the stop
outcome pending, and a PARK neither joins the parked list nor starts the poll timer (R102, R140, R148, R149). A WAIT to an OPEN
that leaves the possibly opened flag clear completes the slot at once with the stop outcome, with no late-stop flag and no
BUSY_LIMIT, and with the flag set it keeps it (R140, R147). Whether the gap has passed at a timeout is computed as assumption
log 7 says. -/
def Obligations.HeldStopIsResolvedAtTheReport : Prop :=
  ∀ (s : State) (f : Frame) (i : SlotId) (k : StopKind), s.serves f i → (s.slot i).offers f →
    (s.slot i).stopRequest = some k →
    let x := s.slot i
    let r := s.station f.station
    let outcome : Ending := match k with
      | .cancelled => .cancelled
      | .timedOut => .timedOut
    let stopped (t : State) (y : Slot) (q : Station) : State := { t with
      slots := t.slots.set i.val { y with
        state := .aborting
        pendingOutcome := some outcome
        abortAttempts := 2
        stopRequest := none
        ready := false
        inFlight := false }
      stations := t.stations.set f.station.val q }
    let noContext : Prop := f.kind = .openReq ∧ (x.retriesUsed = 0 ∨ x.possiblyOpened = false)
    let busy : Slot := { x with
      busySeen := min 255 (x.busySeen + 1)
      busyLeft := if x.desc.busyAllowance = 0 then x.busyLeft else x.busyLeft - 1 }
    (f.phase = .receiving →
      let t := s.replyTaken f i
      let q : Station := { r with failures := 0 }
      let waited : Stats := { t.stats with waitReplies := t.stats.waitReplies + 1 }
      let counted (n : Nat) : Stats := { t.stats with payloadBytes := t.stats.payloadBytes + BitVec.ofNat 32 n }
      (i ∉ r.parked →
        (f.kind = .openReq → exec .accept s = .next (stopped t
          { x with
            phase := if x.desc.kind = .control then .finishing else .data
            nextIndex := 0
            bytesMoved := 0 }
          { q with engaged := some i })) ∧
        (f.kind = .send →
          let n := min 64 (x.len - 64 * x.nextIndex)
          exec .taken s = .next { stopped t
            { x with
              bytesMoved := x.bytesMoved + n
              nextIndex := x.nextIndex + 1
              phase := if x.bytesMoved + n = x.len then .finishing else .data }
            q with stats := counted n }) ∧
        (∀ payload : List Byte, f.kind = .pull → payload.length ≤ 64 → payload.length ≤ x.len - x.bytesMoved →
          let p := payload.length
          let moved := x.bytesMoved + p
          exec (.give payload) s = .next { stopped t
            { x with
              bytesMoved := moved
              nextIndex := x.nextIndex + 1
              phase := if p < 64 ∨ moved = x.len then .finishing else .data
              short := x.short || decide (p < 64 ∧ moved < x.len) }
            q with
              mem := chainPutAll s.mem x.chain (64 * x.nextIndex) payload
              stats := counted p }) ∧
        (¬ noContext → exec .wait s = .next { stopped t busy
          { q with backoff := some s.cfg.backoffInterval } with stats := waited }) ∧
        (f.kind ≠ .openReq → r.parked.length < r.parkDepth →
          exec .park s = .next (stopped t x { q with engaged := none }))) ∧
      (noContext →
        let u : State := { t with
          slots := t.slots.set i.val { busy with inFlight := false, possiblyOpened := false }
          stations := t.stations.set f.station.val { q with backoff := some s.cfg.backoffInterval }
          stats := waited }
        let v := (u.complete i { outcome := outcome }).coalesce
        exec .wait s = .next v ∧ (v.slot i).state = .complete ∧ (v.slot i).outcome = some outcome ∧
          (v.slot i).lateStop = false ∧ (v.slot i).possiblyOpened = false ∧
          v.queue.map (fun q => (q.slot, q.outcome)) =
            s.queue.map (fun q => (q.slot, q.outcome)) ++ [(i, outcome)])) ∧
    ∀ c : Instr, i ∉ r.parked → s.failsBy f c → s.keepsLink c → r.failures + 1 < s.cfg.faultThreshold →
      exec c s = .next ((stopped (s.failureTaken f i (decide (c = .violationReply)) (s.gapAfter f c) (s.silentAfter c)) x
        { r with failures := r.failures + 1 }).afterReport c)

/-- A failed SYNC, garbled, violating or silent, uses one probe attempt of its PROBING station, and the last one makes the station
ABSENT and completes its QUEUED and ABORTING slots NO_STATION in walk order; it counts no failure of the station and, silent,
leaves the silent count (R69, R72, R77, R180). In STARTING the link passes to RUNNING once no station is left to probe (R175). -/
def Obligations.FailedProbes : Prop :=
  ∀ (s : State) (f : Frame) (c : Instr), s.listsMatch → s.stationsQuiet →
    s.link ∈ [LinkState.starting, .running] → s.failsBy f c → f.kind = .sync → f.slot = none →
    (s.station f.station).state = .probing →
    let st := f.station
    let ids := s.walkAt st [.queued, .aborting]
    ∃ u : State, exec c s = .next (u.afterReport c) ∧ u.frame = none ∧ u.gapPassed = s.gapAfter f c ∧
      u.silentCount = (if c = .replyTimeout then s.silentCount else 0) ∧
      (2 ≤ (s.station st).probeAttempts → u.queue = s.queue ∧ u.slots = s.slots ∧
        u.station st = { s.station st with probeAttempts := (s.station st).probeAttempts - 1 } ∧
        s.linkPasses u False) ∧
      ((s.station st).probeAttempts = 1 → s.completesInOrder u ids (fun _ => .noStation) ∧
        (∀ i, i ∉ ids → u.slot i = s.slot i) ∧
        u.station st = { s.station st with
          state := .absent, probeAttempts := 0, parkDepth := 0, failures := 0, changed := true } ∧
        s.linkPasses u (s.noOtherProbe st)) ∧
      ∀ v, v ≠ st → u.station v = s.station v

/-- A valid PRESENT, or a failed SYNC at the last withdraw attempt, ends the withdrawal of a WITHDRAWING station: it is DISABLED with
its change flag set, and its QUEUED, PARKED and ABORTING slots complete WITHDRAWN in walk order. A failed SYNC, garbled,
violating or silent, with two attempts left lowers them to 1 and changes no slot (R70, R71, R77). In STARTING the link passes
to RUNNING once no station is left to probe (R175). -/
def Obligations.WithdrawalEnds : Prop :=
  ∀ (s : State) (f : Frame) (c : Instr), s.listsMatch → s.link ∈ [LinkState.starting, .running] →
    s.frame = some f → f.kind = .sync → f.slot = none → (s.station f.station).state = .withdrawing →
    let st := f.station
    let ids := s.walkAt st [.queued, .parked, .aborting]
    let answered : Prop := f.phase = .receiving ∧ ∃ d : Byte, c = .present d ∧ d.toNat ≤ 3
    (answered ∨ (s.failsBy f c ∧ (s.station st).withdrawAttempts = 1) →
      ∃ u : State, exec c s = .next (u.afterReport c) ∧ u.frame = none ∧
        s.completesInOrder u ids (fun _ => .withdrawn) ∧
        (∀ i, i ∉ ids → u.slot i = s.slot i) ∧
        u.station st = { s.station st with
          state := .disabled, withdrawAttempts := 0, parkDepth := 0, failures := 0, changed := true
          engaged := none, parked := [], backoff := none, pollTimer := .stopped } ∧
        (∀ v, v ≠ st → u.station v = s.station v) ∧ s.linkPasses u (s.noOtherProbe st)) ∧
    (s.failsBy f c → (s.station st).withdrawAttempts = 2 →
      ∃ u : State, exec c s = .next (u.afterReport c) ∧ u.frame = none ∧ u.slots = s.slots ∧ u.queue = s.queue ∧
        u.station st = { s.station st with withdrawAttempts := 1 } ∧
        (∀ v, v ≠ st → u.station v = s.station v) ∧ s.linkPasses u False)

/-- The fault step at the failure that reaches the threshold, garbled, violating or silent: the station is FAULTY with its change flag
set and nothing engaged, parked or timed; the frame's slot completes first, LINK_ERROR for a silent or garbled reply with no
retries left and STATION_FAULT otherwise, then every other slot of the station, STATION_FAULT, in walk order. The slot of a
failed ABORT completes first with its pending outcome and the abort-unconfirmed flag set, and its attempts become 0 where the
abort ends unconfirmed (R72, R73, R74, R152, R153). -/
def Obligations.FaultCascade : Prop :=
  ∀ (s : State) (f : Frame) (i : SlotId) (c : Instr) (pending : Ending), s.listsMatch → s.serves f i →
    s.failsBy f c → s.keepsLink c → s.cfg.faultThreshold ≤ (s.station f.station).failures + 1 →
    ((s.slot i).offers f ∨
      (f.kind = .abort ∧ f.index = 0 ∧ (s.slot i).state = .aborting ∧ (s.slot i).pendingOutcome = some pending)) →
    let st := f.station
    let first : Ending :=
      if f.kind = .abort then pending
      else if c ≠ .violationReply ∧ (s.slot i).retriesLeft = 0 then .linkError else .stationFault
    let ids := i :: (s.walkAt st [.queued, .opened, .parked, .aborting]).filter (fun j => decide (j ≠ i))
    ∃ u : State, exec c s = .next (u.afterReport c) ∧
      s.completesInOrder u ids (fun j => if j = i then first else .stationFault) ∧
      (∀ j ∈ ids, (u.slot j).abortUnconfirmed = decide (j = i ∧ f.kind = .abort)) ∧
      (u.slot i).retriesUsed = (s.slot i).retriesUsed ∧
      (f.kind = .abort → (c = .violationReply ∨ (s.slot i).abortAttempts = 1) → (u.slot i).abortAttempts = 0) ∧
      u.station st = { s.station st with
        state := .faulty
        engaged := none
        parked := []
        backoff := none
        pollTimer := .stopped
        failures := (s.station st).failures + 1
        changed := true } ∧
      (∀ v, v ≠ st → u.station v = s.station v) ∧
      (∀ j, j ∉ ids → u.slot j = s.slot j) ∧ u.frame = none ∧ u.silentCount = s.silentAfter c

/-- A silent or garbled ABORT with two attempts left, below the fault threshold, lowers them to 1 and is owed again; at the last
attempt, or at a violation, the slot completes first, with its pending outcome, the abort-unconfirmed flag set and no attempt
left, its station is FAULTY, and every other slot of the station completes STATION_FAULT in walk order (R73, R152, R153). -/
def Obligations.FailedAborts : Prop :=
  ∀ (s : State) (f : Frame) (i : SlotId) (c : Instr) (o : Ending), s.serves f i → s.failsBy f c → s.keepsLink c →
    f.kind = .abort → f.index = 0 → (s.slot i).state = .aborting → (s.slot i).pendingOutcome = some o →
    (s.station f.station).failures + 1 < s.cfg.faultThreshold →
    let st := f.station
    (c ≠ .violationReply → (s.slot i).abortAttempts = 2 →
      exec c s = .next (((s.failureTaken f i false (s.gapAfter f c) (s.silentAfter c)).modSlot i fun x =>
        { x with abortAttempts := 1 }).afterReport c)) ∧
    (s.listsMatch → (c = .violationReply ∨ (s.slot i).abortAttempts = 1) →
      let ids := i :: (s.walkAt st [.queued, .opened, .parked, .aborting]).filter (fun j => decide (j ≠ i))
      ∃ u : State, exec c s = .next (u.afterReport c) ∧
        s.completesInOrder u ids (fun j => if j = i then o else .stationFault) ∧
        (∀ j ∈ ids, (u.slot j).abortUnconfirmed = decide (j = i)) ∧ (u.slot i).abortAttempts = 0 ∧
        u.station st = { s.station st with
          state := .faulty
          engaged := none
          parked := []
          backoff := none
          pollTimer := .stopped
          failures := (s.station st).failures + 1
          changed := true } ∧
        (∀ v, v ≠ st → u.station v = s.station v) ∧ (∀ j, j ∉ ids → u.slot j = s.slot j) ∧ u.frame = none)

/-! ## The completion step and the announcement of records -/

/-- The completion step (R19, R20, R39, R76): what it writes to the slot, the blocks it returns, the record it appends, the places the
slot leaves, the poll timer that stops when the last slot with a clear ready flag has left, and that it changes nothing else.
The end of an event's step makes the coalescing decision once, and only when the event appended a record: the cause is raised
with a holdoff of 0 or at the threshold, otherwise a stopped holdoff timer starts and a running one goes on (R164, R165). -/
def Obligations.CompletionAndAnnouncement : Prop :=
  (∀ (s : State) (i : SlotId) (r : Result),
    (s.slot i).state ∈ [SlotState.claimed, .queued, .opened, .parked, .aborting] →
    let x := s.slot i
    let keep := if x.desc.kind = .fetch then (x.bytesMoved + 31) / 32 else 0
    let t := s.complete i r
    t = { s with
      slots := s.slots.set i.val { x with
        state := .complete
        lifetimeTimer := none
        stopRequest := none
        pendingOutcome := none
        inFlight := false
        ready := false
        outcome := some r.outcome
        stationStatus := r.stationStatus
        lateStop := r.lateStop
        abortUnconfirmed := r.abortUnconfirmed
        chain := x.chain.take keep }
      urgent := s.urgent.erase i
      normal := s.normal.erase i
      freeList := s.freeList ++ x.chain.drop keep
      queue := s.queue ++ [
        { seq := s.seqCounter, slot := i, station := x.desc.station, kind := x.desc.kind
          outcome := r.outcome, bytesMoved := x.bytesMoved, short := x.short
          stationStatus := r.stationStatus, retriesUsed := x.retriesUsed, busyReplies := x.busySeen
          lateStop := r.lateStop, abortUnconfirmed := r.abortUnconfirmed }]
      seqCounter := s.seqCounter + 1
      unannounced := s.unannounced + 1
      stations := t.stations } ∧
    (∀ st, x.desc.stationId ≠ some st → t.station st = s.station st) ∧
    ∀ st, x.desc.stationId = some st →
      let was := s.station st
      let left := was.parked.erase i
      t.station st = { was with
        engaged := if was.engaged = some i then none else was.engaged
        parked := left
        pollTimer :=
          if i ∈ was.parked ∧ ¬ (was.state = .online ∧ ∃ j ∈ left, (s.slot j).ready = false) ∧
              (was.pollTimer = .expired ∨ was.pollTimer.isRunning = true) then .stopped
          else was.pollTimer }) ∧
  (∀ s : State,
    (s.cfg.holdoff = 0 ∨ s.cfg.completionThreshold ≤ s.unannounced →
      s.coalesce = { s with completionCause := true, unannounced := 0, holdoffTimer := none }) ∧
    (s.cfg.holdoff ≠ 0 → s.unannounced < s.cfg.completionThreshold →
      s.coalesce = { s with holdoffTimer := some (s.holdoffTimer.getD s.cfg.holdoff) })) ∧
  ∀ (s : State) (recs : List Record) (t : State), t.queue = s.queue ++ recs →
    (recs ≠ [] → t.announceSince s = t.coalesce) ∧ (recs = [] → t.announceSince s = t)

/-! ## Invariants that every step keeps -/

/-- Every step keeps every block number exactly once across the free list and all chains (R26), and the pool's memory in its
canonical form. -/
def Obligations.StepConservesThePool : Prop :=
  ∀ s t : State, step s = .next t →
    (s.poolConserved → t.poolConserved) ∧ (s.memoryCanonical → t.memoryCanonical)

/-- Every step keeps each posted and unfinished slot once in the dispatch list of its class and no other slot in a list (R17), and one
record in the queue for each COMPLETE slot and none for another (R157). -/
def Obligations.StepKeepsListsAndRecords : Prop :=
  ∀ s t : State, step s = .next t → (s.listsMatch → t.listsMatch) ∧ (s.queueMatches → t.queueMatches)

/-- Every step keeps the sequence numbers of the records consecutive up to the counter and the unannounced count at or below the number
of records (R158, R163). -/
def Obligations.StepKeepsTheQueueNumbered : Prop :=
  ∀ s t : State, s.sequenceRuns → s.unannouncedFits → step s = .next t → t.sequenceRuns ∧ t.unannouncedFits

/-- Every step keeps the station status of each record present exactly for OK, STATION_ERROR and REFUSED (R159), given that pending
outcomes are those of R149, which it keeps too. -/
def Obligations.StepKeepsStatusPresence : Prop :=
  ∀ s t : State, s.statusesPresent → s.pendingFits → step s = .next t → t.statusesPresent ∧ t.pendingFits

/-- Every step keeps the progress fields of every slot in the relations of R4 and R100, given the dispatch lists of R17 and the
engagements of R64. -/
def Obligations.StepKeepsTheProgressRelations : Prop :=
  ∀ s t : State, s.progressFits → s.listsMatch → s.engagement → step s = .next t → t.progressFits

/-- Every step keeps the number of blocks on every chain at what R33 and R34 give the slot's state, given the dispatch lists of R17,
the conservation of the pool, the progress relations of R100 and the engagements of R64. -/
def Obligations.StepKeepsTheChainLengths : Prop :=
  ∀ s t : State, s.chainsFit → s.listsMatch → s.poolConserved → s.progressFits → s.engagement → step s = .next t →
    t.chainsFit

/-- Every step leaves a station outside ONLINE with nothing engaged, nothing parked and no timer running (R64, R73, R76), given the
engagements of R64; given the dispatch lists of R17, a link that is OFF or SUSPENDED with no frame in flight, no station ONLINE
or WITHDRAWING and no slot OPEN or PARKED (R52, R178); the gap not passed while a received frame is open that a byte has been
received of, nor in SENDING; and, while a frame is in flight, a received frame open exactly in RECEIVING and the reply timer
running exactly in AWAITING (R42, R46, R47, R52, R53, R59; how the gap and the receiver are held is assumption log 7). -/
def Obligations.StepKeepsTheIdlePartsQuiet : Prop :=
  ∀ s t : State, step s = .next t →
    (s.stationsQuiet → s.engagement → t.stationsQuiet) ∧ (s.linkDownQuiet → s.listsMatch → t.linkDownQuiet) ∧
    (s.lineFits → t.lineFits)

/-- Every step keeps the engaged fields, the parked lists, the ready flags, the stations of the active slots and the in-flight flags in
the relations of R52, R64, R101, R123 and R126, given the dispatch lists of R17 and stations that are quiet outside ONLINE; and
then the poll timers in those of R76 and R127. -/
def Obligations.StepKeepsTheEngagements : Prop :=
  ∀ s t : State, s.engagement → s.listsMatch → s.stationsQuiet → step s = .next t →
    t.engagement ∧ (s.pollTimersFit → t.pollTimersFit)

end Statements
end

