-- ==== Sys2Proof/Laws/State.lean ====
section
/-! SUPPORT. The small lemmas of the state's updates: one per field per update, true by rfl, so that no later proof unfolds a
record update; and reading a slot or a station record after one was replaced. -/

namespace Sys2Proof.Machine

/-! ## A record after a replacement -/

@[simp] theorem State.slot_setSlot_self (s : State) (i : SlotId) (x : Slot) : (s.setSlot i x).slot i = x := by
  simp [State.slot, State.setSlot]

theorem State.slot_setSlot_ne (s : State) (i j : SlotId) (x : Slot) (h : j ≠ i) :
    (s.setSlot i x).slot j = s.slot j := by
  have h' : i.val ≠ j.val := fun e => h (Fin.ext e.symm)
  simp [State.slot, State.setSlot, Vector.getElem_set_ne, h']

theorem State.slot_setSlot (s : State) (i j : SlotId) (x : Slot) :
    (s.setSlot i x).slot j = if j = i then x else s.slot j := by
  by_cases h : j = i
  · subst h; simp
  · simp [h, State.slot_setSlot_ne]

@[simp] theorem State.slot_modSlot_self (s : State) (i : SlotId) (f : Slot → Slot) :
    (s.modSlot i f).slot i = f (s.slot i) := by simp [State.modSlot]

theorem State.slot_modSlot_ne (s : State) (i j : SlotId) (f : Slot → Slot) (h : j ≠ i) :
    (s.modSlot i f).slot j = s.slot j := by simp [State.modSlot, State.slot_setSlot_ne, h]

theorem State.slot_modSlot (s : State) (i j : SlotId) (f : Slot → Slot) :
    (s.modSlot i f).slot j = if j = i then f (s.slot i) else s.slot j := by
  simp [State.modSlot, State.slot_setSlot]

@[simp] theorem State.station_setStation_self (s : State) (st : StationId) (r : Station) :
    (s.setStation st r).station st = r := by simp [State.station, State.setStation]

theorem State.station_setStation_ne (s : State) (st u : StationId) (r : Station) (h : u ≠ st) :
    (s.setStation st r).station u = s.station u := by
  have h' : st.val ≠ u.val := fun e => h (Fin.ext e.symm)
  simp [State.station, State.setStation, Vector.getElem_set_ne, h']

theorem State.station_setStation (s : State) (st u : StationId) (r : Station) :
    (s.setStation st r).station u = if u = st then r else s.station u := by
  by_cases h : u = st
  · subst h; simp
  · simp [h, State.station_setStation_ne]

@[simp] theorem State.station_modStation_self (s : State) (st : StationId) (f : Station → Station) :
    (s.modStation st f).station st = f (s.station st) := by simp [State.modStation]

theorem State.station_modStation_ne (s : State) (st u : StationId) (f : Station → Station) (h : u ≠ st) :
    (s.modStation st f).station u = s.station u := by
  simp [State.modStation, State.station_setStation_ne, h]

theorem State.station_modStation (s : State) (st u : StationId) (f : Station → Station) :
    (s.modStation st f).station u = if u = st then f (s.station st) else s.station u := by
  simp [State.modStation, State.station_setStation]

@[simp] theorem State.station_mapStations (s : State) (f : Station → Station) (st : StationId) :
    (s.mapStations f).station st = f (s.station st) := by
  simp [State.station, State.mapStations]

/-- Two states with the same slot records have the same slot table. -/
theorem State.slots_ext {s t : State} (h : ∀ i : SlotId, s.slot i = t.slot i) : s.slots = t.slots := by
  apply Vector.ext
  intro k hk
  exact h ⟨k, hk⟩

/-- Two states with the same station records have the same station table. -/
theorem State.stations_ext {s t : State} (h : ∀ st : StationId, s.station st = t.station st) :
    s.stations = t.stations := by
  apply Vector.ext
  intro k hk
  exact h ⟨k, hk⟩

/-! ## setSlot -/

@[simp] theorem State.setSlot_urgent (s : State) (i : SlotId) (x : Slot) : (s.setSlot i x).urgent = s.urgent := rfl

@[simp] theorem State.setSlot_normal (s : State) (i : SlotId) (x : Slot) : (s.setSlot i x).normal = s.normal := rfl

@[simp] theorem State.setSlot_freeList (s : State) (i : SlotId) (x : Slot) : (s.setSlot i x).freeList = s.freeList := rfl

@[simp] theorem State.setSlot_mem (s : State) (i : SlotId) (x : Slot) : (s.setSlot i x).mem = s.mem := rfl

@[simp] theorem State.setSlot_stations (s : State) (i : SlotId) (x : Slot) : (s.setSlot i x).stations = s.stations := rfl

@[simp] theorem State.setSlot_link (s : State) (i : SlotId) (x : Slot) : (s.setSlot i x).link = s.link := rfl

@[simp] theorem State.setSlot_silentCount (s : State) (i : SlotId) (x : Slot) : (s.setSlot i x).silentCount = s.silentCount := rfl

@[simp] theorem State.setSlot_lineFault (s : State) (i : SlotId) (x : Slot) : (s.setSlot i x).lineFault = s.lineFault := rfl

@[simp] theorem State.setSlot_takenRate (s : State) (i : SlotId) (x : Slot) : (s.setSlot i x).takenRate = s.takenRate := rfl

@[simp] theorem State.setSlot_frame (s : State) (i : SlotId) (x : Slot) : (s.setSlot i x).frame = s.frame := rfl

@[simp] theorem State.setSlot_gapPassed (s : State) (i : SlotId) (x : Slot) : (s.setSlot i x).gapPassed = s.gapPassed := rfl
@[simp] theorem State.setSlot_receiver (s : State) (i : SlotId) (x : Slot) : (s.setSlot i x).receiver = s.receiver := rfl

@[simp] theorem State.setSlot_queue (s : State) (i : SlotId) (x : Slot) : (s.setSlot i x).queue = s.queue := rfl

@[simp] theorem State.setSlot_seqCounter (s : State) (i : SlotId) (x : Slot) : (s.setSlot i x).seqCounter = s.seqCounter := rfl

@[simp] theorem State.setSlot_unannounced (s : State) (i : SlotId) (x : Slot) : (s.setSlot i x).unannounced = s.unannounced := rfl

@[simp] theorem State.setSlot_holdoffTimer (s : State) (i : SlotId) (x : Slot) : (s.setSlot i x).holdoffTimer = s.holdoffTimer := rfl

@[simp] theorem State.setSlot_completionCause (s : State) (i : SlotId) (x : Slot) : (s.setSlot i x).completionCause = s.completionCause := rfl

@[simp] theorem State.setSlot_linkCause (s : State) (i : SlotId) (x : Slot) : (s.setSlot i x).linkCause = s.linkCause := rfl

@[simp] theorem State.setSlot_mask (s : State) (i : SlotId) (x : Slot) : (s.setSlot i x).mask = s.mask := rfl

@[simp] theorem State.setSlot_status (s : State) (i : SlotId) (x : Slot) : (s.setSlot i x).status = s.status := rfl

@[simp] theorem State.setSlot_statusSlot (s : State) (i : SlotId) (x : Slot) : (s.setSlot i x).statusSlot = s.statusSlot := rfl

@[simp] theorem State.setSlot_selected (s : State) (i : SlotId) (x : Slot) : (s.setSlot i x).selected = s.selected := rfl

@[simp] theorem State.setSlot_cfg (s : State) (i : SlotId) (x : Slot) : (s.setSlot i x).cfg = s.cfg := rfl

@[simp] theorem State.setSlot_stats (s : State) (i : SlotId) (x : Slot) : (s.setSlot i x).stats = s.stats := rfl

@[simp] theorem State.setSlot_snap (s : State) (i : SlotId) (x : Slot) : (s.setSlot i x).snap = s.snap := rfl

@[simp] theorem State.setSlot_readData (s : State) (i : SlotId) (x : Slot) : (s.setSlot i x).readData = s.readData := rfl

@[simp] theorem State.setSlot_pending (s : State) (i : SlotId) (x : Slot) : (s.setSlot i x).pending = s.pending := rfl

@[simp] theorem State.station_setSlot (s : State) (i : SlotId) (x : Slot) (u : StationId) :
    (s.setSlot i x).station u = s.station u := rfl

/-! ## modSlot -/

@[simp] theorem State.modSlot_urgent (s : State) (i : SlotId) (f : Slot → Slot) : (s.modSlot i f).urgent = s.urgent := rfl

@[simp] theorem State.modSlot_normal (s : State) (i : SlotId) (f : Slot → Slot) : (s.modSlot i f).normal = s.normal := rfl

@[simp] theorem State.modSlot_freeList (s : State) (i : SlotId) (f : Slot → Slot) : (s.modSlot i f).freeList = s.freeList := rfl

@[simp] theorem State.modSlot_mem (s : State) (i : SlotId) (f : Slot → Slot) : (s.modSlot i f).mem = s.mem := rfl

@[simp] theorem State.modSlot_stations (s : State) (i : SlotId) (f : Slot → Slot) : (s.modSlot i f).stations = s.stations := rfl

@[simp] theorem State.modSlot_link (s : State) (i : SlotId) (f : Slot → Slot) : (s.modSlot i f).link = s.link := rfl

@[simp] theorem State.modSlot_silentCount (s : State) (i : SlotId) (f : Slot → Slot) : (s.modSlot i f).silentCount = s.silentCount := rfl

@[simp] theorem State.modSlot_lineFault (s : State) (i : SlotId) (f : Slot → Slot) : (s.modSlot i f).lineFault = s.lineFault := rfl

@[simp] theorem State.modSlot_takenRate (s : State) (i : SlotId) (f : Slot → Slot) : (s.modSlot i f).takenRate = s.takenRate := rfl

@[simp] theorem State.modSlot_frame (s : State) (i : SlotId) (f : Slot → Slot) : (s.modSlot i f).frame = s.frame := rfl

@[simp] theorem State.modSlot_gapPassed (s : State) (i : SlotId) (f : Slot → Slot) : (s.modSlot i f).gapPassed = s.gapPassed := rfl
@[simp] theorem State.modSlot_receiver (s : State) (i : SlotId) (f : Slot → Slot) : (s.modSlot i f).receiver = s.receiver := rfl

@[simp] theorem State.modSlot_queue (s : State) (i : SlotId) (f : Slot → Slot) : (s.modSlot i f).queue = s.queue := rfl

@[simp] theorem State.modSlot_seqCounter (s : State) (i : SlotId) (f : Slot → Slot) : (s.modSlot i f).seqCounter = s.seqCounter := rfl

@[simp] theorem State.modSlot_unannounced (s : State) (i : SlotId) (f : Slot → Slot) : (s.modSlot i f).unannounced = s.unannounced := rfl

@[simp] theorem State.modSlot_holdoffTimer (s : State) (i : SlotId) (f : Slot → Slot) : (s.modSlot i f).holdoffTimer = s.holdoffTimer := rfl

@[simp] theorem State.modSlot_completionCause (s : State) (i : SlotId) (f : Slot → Slot) : (s.modSlot i f).completionCause = s.completionCause := rfl

@[simp] theorem State.modSlot_linkCause (s : State) (i : SlotId) (f : Slot → Slot) : (s.modSlot i f).linkCause = s.linkCause := rfl

@[simp] theorem State.modSlot_mask (s : State) (i : SlotId) (f : Slot → Slot) : (s.modSlot i f).mask = s.mask := rfl

@[simp] theorem State.modSlot_status (s : State) (i : SlotId) (f : Slot → Slot) : (s.modSlot i f).status = s.status := rfl

@[simp] theorem State.modSlot_statusSlot (s : State) (i : SlotId) (f : Slot → Slot) : (s.modSlot i f).statusSlot = s.statusSlot := rfl

@[simp] theorem State.modSlot_selected (s : State) (i : SlotId) (f : Slot → Slot) : (s.modSlot i f).selected = s.selected := rfl

@[simp] theorem State.modSlot_cfg (s : State) (i : SlotId) (f : Slot → Slot) : (s.modSlot i f).cfg = s.cfg := rfl

@[simp] theorem State.modSlot_stats (s : State) (i : SlotId) (f : Slot → Slot) : (s.modSlot i f).stats = s.stats := rfl

@[simp] theorem State.modSlot_snap (s : State) (i : SlotId) (f : Slot → Slot) : (s.modSlot i f).snap = s.snap := rfl

@[simp] theorem State.modSlot_readData (s : State) (i : SlotId) (f : Slot → Slot) : (s.modSlot i f).readData = s.readData := rfl

@[simp] theorem State.modSlot_pending (s : State) (i : SlotId) (f : Slot → Slot) : (s.modSlot i f).pending = s.pending := rfl

@[simp] theorem State.station_modSlot (s : State) (i : SlotId) (f : Slot → Slot) (u : StationId) :
    (s.modSlot i f).station u = s.station u := rfl

/-! ## setStation -/

@[simp] theorem State.setStation_slots (s : State) (st : StationId) (r : Station) : (s.setStation st r).slots = s.slots := rfl

@[simp] theorem State.setStation_urgent (s : State) (st : StationId) (r : Station) : (s.setStation st r).urgent = s.urgent := rfl

@[simp] theorem State.setStation_normal (s : State) (st : StationId) (r : Station) : (s.setStation st r).normal = s.normal := rfl

@[simp] theorem State.setStation_freeList (s : State) (st : StationId) (r : Station) : (s.setStation st r).freeList = s.freeList := rfl

@[simp] theorem State.setStation_mem (s : State) (st : StationId) (r : Station) : (s.setStation st r).mem = s.mem := rfl

@[simp] theorem State.setStation_link (s : State) (st : StationId) (r : Station) : (s.setStation st r).link = s.link := rfl

@[simp] theorem State.setStation_silentCount (s : State) (st : StationId) (r : Station) : (s.setStation st r).silentCount = s.silentCount := rfl

@[simp] theorem State.setStation_lineFault (s : State) (st : StationId) (r : Station) : (s.setStation st r).lineFault = s.lineFault := rfl

@[simp] theorem State.setStation_takenRate (s : State) (st : StationId) (r : Station) : (s.setStation st r).takenRate = s.takenRate := rfl

@[simp] theorem State.setStation_frame (s : State) (st : StationId) (r : Station) : (s.setStation st r).frame = s.frame := rfl

@[simp] theorem State.setStation_gapPassed (s : State) (st : StationId) (r : Station) : (s.setStation st r).gapPassed = s.gapPassed := rfl
@[simp] theorem State.setStation_receiver (s : State) (st : StationId) (r : Station) : (s.setStation st r).receiver = s.receiver := rfl

@[simp] theorem State.setStation_queue (s : State) (st : StationId) (r : Station) : (s.setStation st r).queue = s.queue := rfl

@[simp] theorem State.setStation_seqCounter (s : State) (st : StationId) (r : Station) : (s.setStation st r).seqCounter = s.seqCounter := rfl

@[simp] theorem State.setStation_unannounced (s : State) (st : StationId) (r : Station) : (s.setStation st r).unannounced = s.unannounced := rfl

@[simp] theorem State.setStation_holdoffTimer (s : State) (st : StationId) (r : Station) : (s.setStation st r).holdoffTimer = s.holdoffTimer := rfl

@[simp] theorem State.setStation_completionCause (s : State) (st : StationId) (r : Station) : (s.setStation st r).completionCause = s.completionCause := rfl

@[simp] theorem State.setStation_linkCause (s : State) (st : StationId) (r : Station) : (s.setStation st r).linkCause = s.linkCause := rfl

@[simp] theorem State.setStation_mask (s : State) (st : StationId) (r : Station) : (s.setStation st r).mask = s.mask := rfl

@[simp] theorem State.setStation_status (s : State) (st : StationId) (r : Station) : (s.setStation st r).status = s.status := rfl

@[simp] theorem State.setStation_statusSlot (s : State) (st : StationId) (r : Station) : (s.setStation st r).statusSlot = s.statusSlot := rfl

@[simp] theorem State.setStation_selected (s : State) (st : StationId) (r : Station) : (s.setStation st r).selected = s.selected := rfl

@[simp] theorem State.setStation_cfg (s : State) (st : StationId) (r : Station) : (s.setStation st r).cfg = s.cfg := rfl

@[simp] theorem State.setStation_stats (s : State) (st : StationId) (r : Station) : (s.setStation st r).stats = s.stats := rfl

@[simp] theorem State.setStation_snap (s : State) (st : StationId) (r : Station) : (s.setStation st r).snap = s.snap := rfl

@[simp] theorem State.setStation_readData (s : State) (st : StationId) (r : Station) : (s.setStation st r).readData = s.readData := rfl

@[simp] theorem State.setStation_pending (s : State) (st : StationId) (r : Station) : (s.setStation st r).pending = s.pending := rfl

@[simp] theorem State.slot_setStation (s : State) (st : StationId) (r : Station) (j : SlotId) : (s.setStation st r).slot j = s.slot j := rfl

/-! ## modStation -/

@[simp] theorem State.modStation_slots (s : State) (st : StationId) (f : Station → Station) : (s.modStation st f).slots = s.slots := rfl

@[simp] theorem State.modStation_urgent (s : State) (st : StationId) (f : Station → Station) : (s.modStation st f).urgent = s.urgent := rfl

@[simp] theorem State.modStation_normal (s : State) (st : StationId) (f : Station → Station) : (s.modStation st f).normal = s.normal := rfl

@[simp] theorem State.modStation_freeList (s : State) (st : StationId) (f : Station → Station) : (s.modStation st f).freeList = s.freeList := rfl

@[simp] theorem State.modStation_mem (s : State) (st : StationId) (f : Station → Station) : (s.modStation st f).mem = s.mem := rfl

@[simp] theorem State.modStation_link (s : State) (st : StationId) (f : Station → Station) : (s.modStation st f).link = s.link := rfl

@[simp] theorem State.modStation_silentCount (s : State) (st : StationId) (f : Station → Station) : (s.modStation st f).silentCount = s.silentCount := rfl

@[simp] theorem State.modStation_lineFault (s : State) (st : StationId) (f : Station → Station) : (s.modStation st f).lineFault = s.lineFault := rfl

@[simp] theorem State.modStation_takenRate (s : State) (st : StationId) (f : Station → Station) : (s.modStation st f).takenRate = s.takenRate := rfl

@[simp] theorem State.modStation_frame (s : State) (st : StationId) (f : Station → Station) : (s.modStation st f).frame = s.frame := rfl

@[simp] theorem State.modStation_gapPassed (s : State) (st : StationId) (f : Station → Station) : (s.modStation st f).gapPassed = s.gapPassed := rfl
@[simp] theorem State.modStation_receiver (s : State) (st : StationId) (f : Station → Station) : (s.modStation st f).receiver = s.receiver := rfl

@[simp] theorem State.modStation_queue (s : State) (st : StationId) (f : Station → Station) : (s.modStation st f).queue = s.queue := rfl

@[simp] theorem State.modStation_seqCounter (s : State) (st : StationId) (f : Station → Station) : (s.modStation st f).seqCounter = s.seqCounter := rfl

@[simp] theorem State.modStation_unannounced (s : State) (st : StationId) (f : Station → Station) : (s.modStation st f).unannounced = s.unannounced := rfl

@[simp] theorem State.modStation_holdoffTimer (s : State) (st : StationId) (f : Station → Station) : (s.modStation st f).holdoffTimer = s.holdoffTimer := rfl

@[simp] theorem State.modStation_completionCause (s : State) (st : StationId) (f : Station → Station) : (s.modStation st f).completionCause = s.completionCause := rfl

@[simp] theorem State.modStation_linkCause (s : State) (st : StationId) (f : Station → Station) : (s.modStation st f).linkCause = s.linkCause := rfl

@[simp] theorem State.modStation_mask (s : State) (st : StationId) (f : Station → Station) : (s.modStation st f).mask = s.mask := rfl

@[simp] theorem State.modStation_status (s : State) (st : StationId) (f : Station → Station) : (s.modStation st f).status = s.status := rfl

@[simp] theorem State.modStation_statusSlot (s : State) (st : StationId) (f : Station → Station) : (s.modStation st f).statusSlot = s.statusSlot := rfl

@[simp] theorem State.modStation_selected (s : State) (st : StationId) (f : Station → Station) : (s.modStation st f).selected = s.selected := rfl

@[simp] theorem State.modStation_cfg (s : State) (st : StationId) (f : Station → Station) : (s.modStation st f).cfg = s.cfg := rfl

@[simp] theorem State.modStation_stats (s : State) (st : StationId) (f : Station → Station) : (s.modStation st f).stats = s.stats := rfl

@[simp] theorem State.modStation_snap (s : State) (st : StationId) (f : Station → Station) : (s.modStation st f).snap = s.snap := rfl

@[simp] theorem State.modStation_readData (s : State) (st : StationId) (f : Station → Station) : (s.modStation st f).readData = s.readData := rfl

@[simp] theorem State.modStation_pending (s : State) (st : StationId) (f : Station → Station) : (s.modStation st f).pending = s.pending := rfl

@[simp] theorem State.slot_modStation (s : State) (st : StationId) (f : Station → Station) (j : SlotId) : (s.modStation st f).slot j = s.slot j := rfl

/-! ## mapStations -/

@[simp] theorem State.mapStations_slots (s : State) (f : Station → Station) : (s.mapStations f).slots = s.slots := rfl

@[simp] theorem State.mapStations_urgent (s : State) (f : Station → Station) : (s.mapStations f).urgent = s.urgent := rfl

@[simp] theorem State.mapStations_normal (s : State) (f : Station → Station) : (s.mapStations f).normal = s.normal := rfl

@[simp] theorem State.mapStations_freeList (s : State) (f : Station → Station) : (s.mapStations f).freeList = s.freeList := rfl

@[simp] theorem State.mapStations_mem (s : State) (f : Station → Station) : (s.mapStations f).mem = s.mem := rfl

@[simp] theorem State.mapStations_link (s : State) (f : Station → Station) : (s.mapStations f).link = s.link := rfl

@[simp] theorem State.mapStations_silentCount (s : State) (f : Station → Station) : (s.mapStations f).silentCount = s.silentCount := rfl

@[simp] theorem State.mapStations_lineFault (s : State) (f : Station → Station) : (s.mapStations f).lineFault = s.lineFault := rfl

@[simp] theorem State.mapStations_takenRate (s : State) (f : Station → Station) : (s.mapStations f).takenRate = s.takenRate := rfl

@[simp] theorem State.mapStations_frame (s : State) (f : Station → Station) : (s.mapStations f).frame = s.frame := rfl

@[simp] theorem State.mapStations_gapPassed (s : State) (f : Station → Station) : (s.mapStations f).gapPassed = s.gapPassed := rfl
@[simp] theorem State.mapStations_receiver (s : State) (f : Station → Station) : (s.mapStations f).receiver = s.receiver := rfl

@[simp] theorem State.mapStations_queue (s : State) (f : Station → Station) : (s.mapStations f).queue = s.queue := rfl

@[simp] theorem State.mapStations_seqCounter (s : State) (f : Station → Station) : (s.mapStations f).seqCounter = s.seqCounter := rfl

@[simp] theorem State.mapStations_unannounced (s : State) (f : Station → Station) : (s.mapStations f).unannounced = s.unannounced := rfl

@[simp] theorem State.mapStations_holdoffTimer (s : State) (f : Station → Station) : (s.mapStations f).holdoffTimer = s.holdoffTimer := rfl

@[simp] theorem State.mapStations_completionCause (s : State) (f : Station → Station) : (s.mapStations f).completionCause = s.completionCause := rfl

@[simp] theorem State.mapStations_linkCause (s : State) (f : Station → Station) : (s.mapStations f).linkCause = s.linkCause := rfl

@[simp] theorem State.mapStations_mask (s : State) (f : Station → Station) : (s.mapStations f).mask = s.mask := rfl

@[simp] theorem State.mapStations_status (s : State) (f : Station → Station) : (s.mapStations f).status = s.status := rfl

@[simp] theorem State.mapStations_statusSlot (s : State) (f : Station → Station) : (s.mapStations f).statusSlot = s.statusSlot := rfl

@[simp] theorem State.mapStations_selected (s : State) (f : Station → Station) : (s.mapStations f).selected = s.selected := rfl

@[simp] theorem State.mapStations_cfg (s : State) (f : Station → Station) : (s.mapStations f).cfg = s.cfg := rfl

@[simp] theorem State.mapStations_stats (s : State) (f : Station → Station) : (s.mapStations f).stats = s.stats := rfl

@[simp] theorem State.mapStations_snap (s : State) (f : Station → Station) : (s.mapStations f).snap = s.snap := rfl

@[simp] theorem State.mapStations_readData (s : State) (f : Station → Station) : (s.mapStations f).readData = s.readData := rfl

@[simp] theorem State.mapStations_pending (s : State) (f : Station → Station) : (s.mapStations f).pending = s.pending := rfl

@[simp] theorem State.slot_mapStations (s : State) (f : Station → Station) (j : SlotId) : (s.mapStations f).slot j = s.slot j := rfl

/-! ## answer -/

@[simp] theorem State.answer_slots (s : State) (c : Status) : (s.answer c).slots = s.slots := rfl

@[simp] theorem State.answer_urgent (s : State) (c : Status) : (s.answer c).urgent = s.urgent := rfl

@[simp] theorem State.answer_normal (s : State) (c : Status) : (s.answer c).normal = s.normal := rfl

@[simp] theorem State.answer_freeList (s : State) (c : Status) : (s.answer c).freeList = s.freeList := rfl

@[simp] theorem State.answer_mem (s : State) (c : Status) : (s.answer c).mem = s.mem := rfl

@[simp] theorem State.answer_stations (s : State) (c : Status) : (s.answer c).stations = s.stations := rfl

@[simp] theorem State.answer_link (s : State) (c : Status) : (s.answer c).link = s.link := rfl

@[simp] theorem State.answer_silentCount (s : State) (c : Status) : (s.answer c).silentCount = s.silentCount := rfl

@[simp] theorem State.answer_lineFault (s : State) (c : Status) : (s.answer c).lineFault = s.lineFault := rfl

@[simp] theorem State.answer_takenRate (s : State) (c : Status) : (s.answer c).takenRate = s.takenRate := rfl

@[simp] theorem State.answer_frame (s : State) (c : Status) : (s.answer c).frame = s.frame := rfl

@[simp] theorem State.answer_gapPassed (s : State) (c : Status) : (s.answer c).gapPassed = s.gapPassed := rfl
@[simp] theorem State.answer_receiver (s : State) (c : Status) : (s.answer c).receiver = s.receiver := rfl

@[simp] theorem State.answer_queue (s : State) (c : Status) : (s.answer c).queue = s.queue := rfl

@[simp] theorem State.answer_seqCounter (s : State) (c : Status) : (s.answer c).seqCounter = s.seqCounter := rfl

@[simp] theorem State.answer_unannounced (s : State) (c : Status) : (s.answer c).unannounced = s.unannounced := rfl

@[simp] theorem State.answer_holdoffTimer (s : State) (c : Status) : (s.answer c).holdoffTimer = s.holdoffTimer := rfl

@[simp] theorem State.answer_completionCause (s : State) (c : Status) : (s.answer c).completionCause = s.completionCause := rfl

@[simp] theorem State.answer_linkCause (s : State) (c : Status) : (s.answer c).linkCause = s.linkCause := rfl

@[simp] theorem State.answer_mask (s : State) (c : Status) : (s.answer c).mask = s.mask := rfl

@[simp] theorem State.answer_status (s : State) (c : Status) : (s.answer c).status = c := rfl

@[simp] theorem State.answer_statusSlot (s : State) (c : Status) : (s.answer c).statusSlot = none := rfl

@[simp] theorem State.answer_selected (s : State) (c : Status) : (s.answer c).selected = s.selected := rfl

@[simp] theorem State.answer_cfg (s : State) (c : Status) : (s.answer c).cfg = s.cfg := rfl

@[simp] theorem State.answer_stats (s : State) (c : Status) : (s.answer c).stats = s.stats := rfl

@[simp] theorem State.answer_snap (s : State) (c : Status) : (s.answer c).snap = s.snap := rfl

@[simp] theorem State.answer_readData (s : State) (c : Status) : (s.answer c).readData = s.readData := rfl

@[simp] theorem State.answer_pending (s : State) (c : Status) : (s.answer c).pending = s.pending := rfl

@[simp] theorem State.slot_answer (s : State) (c : Status) (j : SlotId) : (s.answer c).slot j = s.slot j := rfl

@[simp] theorem State.station_answer (s : State) (c : Status) (u : StationId) :
    (s.answer c).station u = s.station u := rfl

/-! ## answerSlot -/

@[simp] theorem State.answerSlot_slots (s : State) (i : SlotId) : (s.answerSlot i).slots = s.slots := rfl

@[simp] theorem State.answerSlot_urgent (s : State) (i : SlotId) : (s.answerSlot i).urgent = s.urgent := rfl

@[simp] theorem State.answerSlot_normal (s : State) (i : SlotId) : (s.answerSlot i).normal = s.normal := rfl

@[simp] theorem State.answerSlot_freeList (s : State) (i : SlotId) : (s.answerSlot i).freeList = s.freeList := rfl

@[simp] theorem State.answerSlot_mem (s : State) (i : SlotId) : (s.answerSlot i).mem = s.mem := rfl

@[simp] theorem State.answerSlot_stations (s : State) (i : SlotId) : (s.answerSlot i).stations = s.stations := rfl

@[simp] theorem State.answerSlot_link (s : State) (i : SlotId) : (s.answerSlot i).link = s.link := rfl

@[simp] theorem State.answerSlot_silentCount (s : State) (i : SlotId) : (s.answerSlot i).silentCount = s.silentCount := rfl

@[simp] theorem State.answerSlot_lineFault (s : State) (i : SlotId) : (s.answerSlot i).lineFault = s.lineFault := rfl

@[simp] theorem State.answerSlot_takenRate (s : State) (i : SlotId) : (s.answerSlot i).takenRate = s.takenRate := rfl

@[simp] theorem State.answerSlot_frame (s : State) (i : SlotId) : (s.answerSlot i).frame = s.frame := rfl

@[simp] theorem State.answerSlot_gapPassed (s : State) (i : SlotId) : (s.answerSlot i).gapPassed = s.gapPassed := rfl
@[simp] theorem State.answerSlot_receiver (s : State) (i : SlotId) : (s.answerSlot i).receiver = s.receiver := rfl

@[simp] theorem State.answerSlot_queue (s : State) (i : SlotId) : (s.answerSlot i).queue = s.queue := rfl

@[simp] theorem State.answerSlot_seqCounter (s : State) (i : SlotId) : (s.answerSlot i).seqCounter = s.seqCounter := rfl

@[simp] theorem State.answerSlot_unannounced (s : State) (i : SlotId) : (s.answerSlot i).unannounced = s.unannounced := rfl

@[simp] theorem State.answerSlot_holdoffTimer (s : State) (i : SlotId) : (s.answerSlot i).holdoffTimer = s.holdoffTimer := rfl

@[simp] theorem State.answerSlot_completionCause (s : State) (i : SlotId) : (s.answerSlot i).completionCause = s.completionCause := rfl

@[simp] theorem State.answerSlot_linkCause (s : State) (i : SlotId) : (s.answerSlot i).linkCause = s.linkCause := rfl

@[simp] theorem State.answerSlot_mask (s : State) (i : SlotId) : (s.answerSlot i).mask = s.mask := rfl

@[simp] theorem State.answerSlot_status (s : State) (i : SlotId) : (s.answerSlot i).status = .done := rfl

@[simp] theorem State.answerSlot_statusSlot (s : State) (i : SlotId) : (s.answerSlot i).statusSlot = some i := rfl

@[simp] theorem State.answerSlot_selected (s : State) (i : SlotId) : (s.answerSlot i).selected = s.selected := rfl

@[simp] theorem State.answerSlot_cfg (s : State) (i : SlotId) : (s.answerSlot i).cfg = s.cfg := rfl

@[simp] theorem State.answerSlot_stats (s : State) (i : SlotId) : (s.answerSlot i).stats = s.stats := rfl

@[simp] theorem State.answerSlot_snap (s : State) (i : SlotId) : (s.answerSlot i).snap = s.snap := rfl

@[simp] theorem State.answerSlot_readData (s : State) (i : SlotId) : (s.answerSlot i).readData = s.readData := rfl

@[simp] theorem State.answerSlot_pending (s : State) (i : SlotId) : (s.answerSlot i).pending = s.pending := rfl

@[simp] theorem State.slot_answerSlot (s : State) (i : SlotId) (j : SlotId) : (s.answerSlot i).slot j = s.slot j := rfl

@[simp] theorem State.station_answerSlot (s : State) (i : SlotId) (u : StationId) :
    (s.answerSlot i).station u = s.station u := rfl

/-! ## flagStatus -/

@[simp] theorem State.flagStatus_slots (s : State) (c : Status) : (s.flagStatus c).slots = s.slots := rfl

@[simp] theorem State.flagStatus_urgent (s : State) (c : Status) : (s.flagStatus c).urgent = s.urgent := rfl

@[simp] theorem State.flagStatus_normal (s : State) (c : Status) : (s.flagStatus c).normal = s.normal := rfl

@[simp] theorem State.flagStatus_freeList (s : State) (c : Status) : (s.flagStatus c).freeList = s.freeList := rfl

@[simp] theorem State.flagStatus_mem (s : State) (c : Status) : (s.flagStatus c).mem = s.mem := rfl

@[simp] theorem State.flagStatus_stations (s : State) (c : Status) : (s.flagStatus c).stations = s.stations := rfl

@[simp] theorem State.flagStatus_link (s : State) (c : Status) : (s.flagStatus c).link = s.link := rfl

@[simp] theorem State.flagStatus_silentCount (s : State) (c : Status) : (s.flagStatus c).silentCount = s.silentCount := rfl

@[simp] theorem State.flagStatus_lineFault (s : State) (c : Status) : (s.flagStatus c).lineFault = s.lineFault := rfl

@[simp] theorem State.flagStatus_takenRate (s : State) (c : Status) : (s.flagStatus c).takenRate = s.takenRate := rfl

@[simp] theorem State.flagStatus_frame (s : State) (c : Status) : (s.flagStatus c).frame = s.frame := rfl

@[simp] theorem State.flagStatus_gapPassed (s : State) (c : Status) : (s.flagStatus c).gapPassed = s.gapPassed := rfl
@[simp] theorem State.flagStatus_receiver (s : State) (c : Status) : (s.flagStatus c).receiver = s.receiver := rfl

@[simp] theorem State.flagStatus_queue (s : State) (c : Status) : (s.flagStatus c).queue = s.queue := rfl

@[simp] theorem State.flagStatus_seqCounter (s : State) (c : Status) : (s.flagStatus c).seqCounter = s.seqCounter := rfl

@[simp] theorem State.flagStatus_unannounced (s : State) (c : Status) : (s.flagStatus c).unannounced = s.unannounced := rfl

@[simp] theorem State.flagStatus_holdoffTimer (s : State) (c : Status) : (s.flagStatus c).holdoffTimer = s.holdoffTimer := rfl

@[simp] theorem State.flagStatus_completionCause (s : State) (c : Status) : (s.flagStatus c).completionCause = s.completionCause := rfl

@[simp] theorem State.flagStatus_linkCause (s : State) (c : Status) : (s.flagStatus c).linkCause = s.linkCause := rfl

@[simp] theorem State.flagStatus_mask (s : State) (c : Status) : (s.flagStatus c).mask = s.mask := rfl

@[simp] theorem State.flagStatus_status (s : State) (c : Status) : (s.flagStatus c).status = c := rfl

@[simp] theorem State.flagStatus_statusSlot (s : State) (c : Status) : (s.flagStatus c).statusSlot = s.statusSlot := rfl

@[simp] theorem State.flagStatus_selected (s : State) (c : Status) : (s.flagStatus c).selected = s.selected := rfl

@[simp] theorem State.flagStatus_cfg (s : State) (c : Status) : (s.flagStatus c).cfg = s.cfg := rfl

@[simp] theorem State.flagStatus_stats (s : State) (c : Status) : (s.flagStatus c).stats = s.stats := rfl

@[simp] theorem State.flagStatus_snap (s : State) (c : Status) : (s.flagStatus c).snap = s.snap := rfl

@[simp] theorem State.flagStatus_readData (s : State) (c : Status) : (s.flagStatus c).readData = s.readData := rfl

@[simp] theorem State.flagStatus_pending (s : State) (c : Status) : (s.flagStatus c).pending = s.pending := rfl

@[simp] theorem State.slot_flagStatus (s : State) (c : Status) (j : SlotId) : (s.flagStatus c).slot j = s.slot j := rfl

@[simp] theorem State.station_flagStatus (s : State) (c : Status) (u : StationId) :
    (s.flagStatus c).station u = s.station u := rfl

/-! ## leaveList -/

@[simp] theorem State.leaveList_slots (s : State) (i : SlotId) : (s.leaveList i).slots = s.slots := rfl

@[simp] theorem State.leaveList_urgent (s : State) (i : SlotId) : (s.leaveList i).urgent = s.urgent.erase i := rfl

@[simp] theorem State.leaveList_normal (s : State) (i : SlotId) : (s.leaveList i).normal = s.normal.erase i := rfl

@[simp] theorem State.leaveList_freeList (s : State) (i : SlotId) : (s.leaveList i).freeList = s.freeList := rfl

@[simp] theorem State.leaveList_mem (s : State) (i : SlotId) : (s.leaveList i).mem = s.mem := rfl

@[simp] theorem State.leaveList_stations (s : State) (i : SlotId) : (s.leaveList i).stations = s.stations := rfl

@[simp] theorem State.leaveList_link (s : State) (i : SlotId) : (s.leaveList i).link = s.link := rfl

@[simp] theorem State.leaveList_silentCount (s : State) (i : SlotId) : (s.leaveList i).silentCount = s.silentCount := rfl

@[simp] theorem State.leaveList_lineFault (s : State) (i : SlotId) : (s.leaveList i).lineFault = s.lineFault := rfl

@[simp] theorem State.leaveList_takenRate (s : State) (i : SlotId) : (s.leaveList i).takenRate = s.takenRate := rfl

@[simp] theorem State.leaveList_frame (s : State) (i : SlotId) : (s.leaveList i).frame = s.frame := rfl

@[simp] theorem State.leaveList_gapPassed (s : State) (i : SlotId) : (s.leaveList i).gapPassed = s.gapPassed := rfl
@[simp] theorem State.leaveList_receiver (s : State) (i : SlotId) : (s.leaveList i).receiver = s.receiver := rfl

@[simp] theorem State.leaveList_queue (s : State) (i : SlotId) : (s.leaveList i).queue = s.queue := rfl

@[simp] theorem State.leaveList_seqCounter (s : State) (i : SlotId) : (s.leaveList i).seqCounter = s.seqCounter := rfl

@[simp] theorem State.leaveList_unannounced (s : State) (i : SlotId) : (s.leaveList i).unannounced = s.unannounced := rfl

@[simp] theorem State.leaveList_holdoffTimer (s : State) (i : SlotId) : (s.leaveList i).holdoffTimer = s.holdoffTimer := rfl

@[simp] theorem State.leaveList_completionCause (s : State) (i : SlotId) : (s.leaveList i).completionCause = s.completionCause := rfl

@[simp] theorem State.leaveList_linkCause (s : State) (i : SlotId) : (s.leaveList i).linkCause = s.linkCause := rfl

@[simp] theorem State.leaveList_mask (s : State) (i : SlotId) : (s.leaveList i).mask = s.mask := rfl

@[simp] theorem State.leaveList_status (s : State) (i : SlotId) : (s.leaveList i).status = s.status := rfl

@[simp] theorem State.leaveList_statusSlot (s : State) (i : SlotId) : (s.leaveList i).statusSlot = s.statusSlot := rfl

@[simp] theorem State.leaveList_selected (s : State) (i : SlotId) : (s.leaveList i).selected = s.selected := rfl

@[simp] theorem State.leaveList_cfg (s : State) (i : SlotId) : (s.leaveList i).cfg = s.cfg := rfl

@[simp] theorem State.leaveList_stats (s : State) (i : SlotId) : (s.leaveList i).stats = s.stats := rfl

@[simp] theorem State.leaveList_snap (s : State) (i : SlotId) : (s.leaveList i).snap = s.snap := rfl

@[simp] theorem State.leaveList_readData (s : State) (i : SlotId) : (s.leaveList i).readData = s.readData := rfl

@[simp] theorem State.leaveList_pending (s : State) (i : SlotId) : (s.leaveList i).pending = s.pending := rfl

@[simp] theorem State.slot_leaveList (s : State) (i : SlotId) (j : SlotId) : (s.leaveList i).slot j = s.slot j := rfl

@[simp] theorem State.station_leaveList (s : State) (i : SlotId) (u : StationId) :
    (s.leaveList i).station u = s.station u := rfl

/-! ## raiseCompletion -/

@[simp] theorem State.raiseCompletion_slots (s : State) : s.raiseCompletion.slots = s.slots := rfl

@[simp] theorem State.raiseCompletion_urgent (s : State) : s.raiseCompletion.urgent = s.urgent := rfl

@[simp] theorem State.raiseCompletion_normal (s : State) : s.raiseCompletion.normal = s.normal := rfl

@[simp] theorem State.raiseCompletion_freeList (s : State) : s.raiseCompletion.freeList = s.freeList := rfl

@[simp] theorem State.raiseCompletion_mem (s : State) : s.raiseCompletion.mem = s.mem := rfl

@[simp] theorem State.raiseCompletion_stations (s : State) : s.raiseCompletion.stations = s.stations := rfl

@[simp] theorem State.raiseCompletion_link (s : State) : s.raiseCompletion.link = s.link := rfl

@[simp] theorem State.raiseCompletion_silentCount (s : State) : s.raiseCompletion.silentCount = s.silentCount := rfl

@[simp] theorem State.raiseCompletion_lineFault (s : State) : s.raiseCompletion.lineFault = s.lineFault := rfl

@[simp] theorem State.raiseCompletion_takenRate (s : State) : s.raiseCompletion.takenRate = s.takenRate := rfl

@[simp] theorem State.raiseCompletion_frame (s : State) : s.raiseCompletion.frame = s.frame := rfl

@[simp] theorem State.raiseCompletion_gapPassed (s : State) : s.raiseCompletion.gapPassed = s.gapPassed := rfl
@[simp] theorem State.raiseCompletion_receiver (s : State) : s.raiseCompletion.receiver = s.receiver := rfl

@[simp] theorem State.raiseCompletion_queue (s : State) : s.raiseCompletion.queue = s.queue := rfl

@[simp] theorem State.raiseCompletion_seqCounter (s : State) : s.raiseCompletion.seqCounter = s.seqCounter := rfl

@[simp] theorem State.raiseCompletion_unannounced (s : State) : s.raiseCompletion.unannounced = 0 := rfl

@[simp] theorem State.raiseCompletion_holdoffTimer (s : State) : s.raiseCompletion.holdoffTimer = none := rfl

@[simp] theorem State.raiseCompletion_completionCause (s : State) : s.raiseCompletion.completionCause = true := rfl

@[simp] theorem State.raiseCompletion_linkCause (s : State) : s.raiseCompletion.linkCause = s.linkCause := rfl

@[simp] theorem State.raiseCompletion_mask (s : State) : s.raiseCompletion.mask = s.mask := rfl

@[simp] theorem State.raiseCompletion_status (s : State) : s.raiseCompletion.status = s.status := rfl

@[simp] theorem State.raiseCompletion_statusSlot (s : State) : s.raiseCompletion.statusSlot = s.statusSlot := rfl

@[simp] theorem State.raiseCompletion_selected (s : State) : s.raiseCompletion.selected = s.selected := rfl

@[simp] theorem State.raiseCompletion_cfg (s : State) : s.raiseCompletion.cfg = s.cfg := rfl

@[simp] theorem State.raiseCompletion_stats (s : State) : s.raiseCompletion.stats = s.stats := rfl

@[simp] theorem State.raiseCompletion_snap (s : State) : s.raiseCompletion.snap = s.snap := rfl

@[simp] theorem State.raiseCompletion_readData (s : State) : s.raiseCompletion.readData = s.readData := rfl

@[simp] theorem State.raiseCompletion_pending (s : State) : s.raiseCompletion.pending = s.pending := rfl

@[simp] theorem State.slot_raiseCompletion (s : State) (j : SlotId) : s.raiseCompletion.slot j = s.slot j := rfl

@[simp] theorem State.station_raiseCompletion (s : State) (u : StationId) :
    s.raiseCompletion.station u = s.station u := rfl

/-! ## appendRecord -/

@[simp] theorem State.appendRecord_slots (s : State) (r : Record) : (s.appendRecord r).slots = s.slots := rfl

@[simp] theorem State.appendRecord_urgent (s : State) (r : Record) : (s.appendRecord r).urgent = s.urgent := rfl

@[simp] theorem State.appendRecord_normal (s : State) (r : Record) : (s.appendRecord r).normal = s.normal := rfl

@[simp] theorem State.appendRecord_freeList (s : State) (r : Record) : (s.appendRecord r).freeList = s.freeList := rfl

@[simp] theorem State.appendRecord_mem (s : State) (r : Record) : (s.appendRecord r).mem = s.mem := rfl

@[simp] theorem State.appendRecord_stations (s : State) (r : Record) : (s.appendRecord r).stations = s.stations := rfl

@[simp] theorem State.appendRecord_link (s : State) (r : Record) : (s.appendRecord r).link = s.link := rfl

@[simp] theorem State.appendRecord_silentCount (s : State) (r : Record) : (s.appendRecord r).silentCount = s.silentCount := rfl

@[simp] theorem State.appendRecord_lineFault (s : State) (r : Record) : (s.appendRecord r).lineFault = s.lineFault := rfl

@[simp] theorem State.appendRecord_takenRate (s : State) (r : Record) : (s.appendRecord r).takenRate = s.takenRate := rfl

@[simp] theorem State.appendRecord_frame (s : State) (r : Record) : (s.appendRecord r).frame = s.frame := rfl

@[simp] theorem State.appendRecord_gapPassed (s : State) (r : Record) : (s.appendRecord r).gapPassed = s.gapPassed := rfl
@[simp] theorem State.appendRecord_receiver (s : State) (r : Record) : (s.appendRecord r).receiver = s.receiver := rfl

@[simp] theorem State.appendRecord_queue (s : State) (r : Record) : (s.appendRecord r).queue = s.queue ++ [r] := rfl

@[simp] theorem State.appendRecord_seqCounter (s : State) (r : Record) : (s.appendRecord r).seqCounter = s.seqCounter + 1 := rfl

@[simp] theorem State.appendRecord_unannounced (s : State) (r : Record) : (s.appendRecord r).unannounced = s.unannounced + 1 := rfl

@[simp] theorem State.appendRecord_holdoffTimer (s : State) (r : Record) : (s.appendRecord r).holdoffTimer = s.holdoffTimer := rfl

@[simp] theorem State.appendRecord_completionCause (s : State) (r : Record) : (s.appendRecord r).completionCause = s.completionCause := rfl

@[simp] theorem State.appendRecord_linkCause (s : State) (r : Record) : (s.appendRecord r).linkCause = s.linkCause := rfl

@[simp] theorem State.appendRecord_mask (s : State) (r : Record) : (s.appendRecord r).mask = s.mask := rfl

@[simp] theorem State.appendRecord_status (s : State) (r : Record) : (s.appendRecord r).status = s.status := rfl

@[simp] theorem State.appendRecord_statusSlot (s : State) (r : Record) : (s.appendRecord r).statusSlot = s.statusSlot := rfl

@[simp] theorem State.appendRecord_selected (s : State) (r : Record) : (s.appendRecord r).selected = s.selected := rfl

@[simp] theorem State.appendRecord_cfg (s : State) (r : Record) : (s.appendRecord r).cfg = s.cfg := rfl

@[simp] theorem State.appendRecord_stats (s : State) (r : Record) : (s.appendRecord r).stats = s.stats := rfl

@[simp] theorem State.appendRecord_snap (s : State) (r : Record) : (s.appendRecord r).snap = s.snap := rfl

@[simp] theorem State.appendRecord_readData (s : State) (r : Record) : (s.appendRecord r).readData = s.readData := rfl

@[simp] theorem State.appendRecord_pending (s : State) (r : Record) : (s.appendRecord r).pending = s.pending := rfl

@[simp] theorem State.slot_appendRecord (s : State) (r : Record) (j : SlotId) : (s.appendRecord r).slot j = s.slot j := rfl

@[simp] theorem State.station_appendRecord (s : State) (r : Record) (u : StationId) :
    (s.appendRecord r).station u = s.station u := rfl

/-! ## beginFrame -/

@[simp] theorem State.beginFrame_slots (s : State) (f : Frame) : (s.beginFrame f).slots = s.slots := rfl

@[simp] theorem State.beginFrame_urgent (s : State) (f : Frame) : (s.beginFrame f).urgent = s.urgent := rfl

@[simp] theorem State.beginFrame_normal (s : State) (f : Frame) : (s.beginFrame f).normal = s.normal := rfl

@[simp] theorem State.beginFrame_freeList (s : State) (f : Frame) : (s.beginFrame f).freeList = s.freeList := rfl

@[simp] theorem State.beginFrame_mem (s : State) (f : Frame) : (s.beginFrame f).mem = s.mem := rfl

@[simp] theorem State.beginFrame_stations (s : State) (f : Frame) : (s.beginFrame f).stations = s.stations := rfl

@[simp] theorem State.beginFrame_link (s : State) (f : Frame) : (s.beginFrame f).link = s.link := rfl

@[simp] theorem State.beginFrame_silentCount (s : State) (f : Frame) : (s.beginFrame f).silentCount = s.silentCount := rfl

@[simp] theorem State.beginFrame_lineFault (s : State) (f : Frame) : (s.beginFrame f).lineFault = s.lineFault := rfl

@[simp] theorem State.beginFrame_takenRate (s : State) (f : Frame) : (s.beginFrame f).takenRate = s.takenRate := rfl

@[simp] theorem State.beginFrame_frame (s : State) (f : Frame) : (s.beginFrame f).frame = some f := rfl

@[simp] theorem State.beginFrame_gapPassed (s : State) (f : Frame) : (s.beginFrame f).gapPassed = false := rfl
@[simp] theorem State.beginFrame_receiver (s : State) (f : Frame) : (s.beginFrame f).receiver = .waiting := rfl

@[simp] theorem State.beginFrame_queue (s : State) (f : Frame) : (s.beginFrame f).queue = s.queue := rfl

@[simp] theorem State.beginFrame_seqCounter (s : State) (f : Frame) : (s.beginFrame f).seqCounter = s.seqCounter := rfl

@[simp] theorem State.beginFrame_unannounced (s : State) (f : Frame) : (s.beginFrame f).unannounced = s.unannounced := rfl

@[simp] theorem State.beginFrame_holdoffTimer (s : State) (f : Frame) : (s.beginFrame f).holdoffTimer = s.holdoffTimer := rfl

@[simp] theorem State.beginFrame_completionCause (s : State) (f : Frame) : (s.beginFrame f).completionCause = s.completionCause := rfl

@[simp] theorem State.beginFrame_linkCause (s : State) (f : Frame) : (s.beginFrame f).linkCause = s.linkCause := rfl

@[simp] theorem State.beginFrame_mask (s : State) (f : Frame) : (s.beginFrame f).mask = s.mask := rfl

@[simp] theorem State.beginFrame_status (s : State) (f : Frame) : (s.beginFrame f).status = s.status := rfl

@[simp] theorem State.beginFrame_statusSlot (s : State) (f : Frame) : (s.beginFrame f).statusSlot = s.statusSlot := rfl

@[simp] theorem State.beginFrame_selected (s : State) (f : Frame) : (s.beginFrame f).selected = s.selected := rfl

@[simp] theorem State.beginFrame_cfg (s : State) (f : Frame) : (s.beginFrame f).cfg = s.cfg := rfl

@[simp] theorem State.beginFrame_snap (s : State) (f : Frame) : (s.beginFrame f).snap = s.snap := rfl

@[simp] theorem State.beginFrame_readData (s : State) (f : Frame) : (s.beginFrame f).readData = s.readData := rfl

@[simp] theorem State.beginFrame_pending (s : State) (f : Frame) : (s.beginFrame f).pending = s.pending := rfl

@[simp] theorem State.slot_beginFrame (s : State) (f : Frame) (j : SlotId) : (s.beginFrame f).slot j = s.slot j := rfl

@[simp] theorem State.station_beginFrame (s : State) (f : Frame) (u : StationId) :
    (s.beginFrame f).station u = s.station u := rfl

/-! ## countPayload -/

@[simp] theorem State.countPayload_slots (s : State) (n : Nat) : (s.countPayload n).slots = s.slots := rfl

@[simp] theorem State.countPayload_urgent (s : State) (n : Nat) : (s.countPayload n).urgent = s.urgent := rfl

@[simp] theorem State.countPayload_normal (s : State) (n : Nat) : (s.countPayload n).normal = s.normal := rfl

@[simp] theorem State.countPayload_freeList (s : State) (n : Nat) : (s.countPayload n).freeList = s.freeList := rfl

@[simp] theorem State.countPayload_mem (s : State) (n : Nat) : (s.countPayload n).mem = s.mem := rfl

@[simp] theorem State.countPayload_stations (s : State) (n : Nat) : (s.countPayload n).stations = s.stations := rfl

@[simp] theorem State.countPayload_link (s : State) (n : Nat) : (s.countPayload n).link = s.link := rfl

@[simp] theorem State.countPayload_silentCount (s : State) (n : Nat) : (s.countPayload n).silentCount = s.silentCount := rfl

@[simp] theorem State.countPayload_lineFault (s : State) (n : Nat) : (s.countPayload n).lineFault = s.lineFault := rfl

@[simp] theorem State.countPayload_takenRate (s : State) (n : Nat) : (s.countPayload n).takenRate = s.takenRate := rfl

@[simp] theorem State.countPayload_frame (s : State) (n : Nat) : (s.countPayload n).frame = s.frame := rfl

@[simp] theorem State.countPayload_gapPassed (s : State) (n : Nat) : (s.countPayload n).gapPassed = s.gapPassed := rfl
@[simp] theorem State.countPayload_receiver (s : State) (n : Nat) : (s.countPayload n).receiver = s.receiver := rfl

@[simp] theorem State.countPayload_queue (s : State) (n : Nat) : (s.countPayload n).queue = s.queue := rfl

@[simp] theorem State.countPayload_seqCounter (s : State) (n : Nat) : (s.countPayload n).seqCounter = s.seqCounter := rfl

@[simp] theorem State.countPayload_unannounced (s : State) (n : Nat) : (s.countPayload n).unannounced = s.unannounced := rfl

@[simp] theorem State.countPayload_holdoffTimer (s : State) (n : Nat) : (s.countPayload n).holdoffTimer = s.holdoffTimer := rfl

@[simp] theorem State.countPayload_completionCause (s : State) (n : Nat) : (s.countPayload n).completionCause = s.completionCause := rfl

@[simp] theorem State.countPayload_linkCause (s : State) (n : Nat) : (s.countPayload n).linkCause = s.linkCause := rfl

@[simp] theorem State.countPayload_mask (s : State) (n : Nat) : (s.countPayload n).mask = s.mask := rfl

@[simp] theorem State.countPayload_status (s : State) (n : Nat) : (s.countPayload n).status = s.status := rfl

@[simp] theorem State.countPayload_statusSlot (s : State) (n : Nat) : (s.countPayload n).statusSlot = s.statusSlot := rfl

@[simp] theorem State.countPayload_selected (s : State) (n : Nat) : (s.countPayload n).selected = s.selected := rfl

@[simp] theorem State.countPayload_cfg (s : State) (n : Nat) : (s.countPayload n).cfg = s.cfg := rfl

@[simp] theorem State.countPayload_snap (s : State) (n : Nat) : (s.countPayload n).snap = s.snap := rfl

@[simp] theorem State.countPayload_readData (s : State) (n : Nat) : (s.countPayload n).readData = s.readData := rfl

@[simp] theorem State.countPayload_pending (s : State) (n : Nat) : (s.countPayload n).pending = s.pending := rfl

@[simp] theorem State.slot_countPayload (s : State) (n : Nat) (j : SlotId) : (s.countPayload n).slot j = s.slot j := rfl

@[simp] theorem State.station_countPayload (s : State) (n : Nat) (u : StationId) :
    (s.countPayload n).station u = s.station u := rfl

end Sys2Proof.Machine
end

