-- ==== Sys2Proof/Laws/Memory.lean ====
section
/-! SUPPORT. The pool's memory: a byte read after a store, after a cleared block, and the canonical form that every operation
over it keeps. -/

namespace Sys2Proof.Machine

/-! ## Reading -/

@[simp] theorem Memory.read_nil (a : Nat) : Memory.read [] a = Memory.unlisted := rfl

/-- An address below every listed one reads as unlisted. -/
theorem Memory.read_of_lt {m : Memory} {a : Nat} (h : ∀ c ∈ m, a < c.1) : Memory.read m a = Memory.unlisted := by
  induction m with
  | nil => rfl
  | cons c m ih =>
    have hc := h c (by simp)
    have : c.1 ≠ a := by omega
    simp only [Memory.read, this, if_false]
    exact ih fun d hd => h d (by simp [hd])

/-- A list of cells in rising order: the head is below every other address. -/
theorem Memory.head_lt {c : Host.Cell} {m : Memory} (h : (c :: m).Pairwise (fun c d => c.1 < d.1)) :
    ∀ d ∈ m, c.1 < d.1 := (List.pairwise_cons.mp h).1

/-- The byte stored reads back, and every other address reads as before. -/
theorem Memory.read_write {m : Memory} (h : m.Pairwise (fun c d => c.1 < d.1)) (a b : Nat) (v : Byte) :
    (m.write a v).read b = if b = a then v else m.read b := by
  induction m with
  | nil =>
    unfold Memory.write
    split <;> rename_i hv
    · by_cases hb : b = a <;> simp [hb, hv]
    · by_cases hb : b = a
      · simp [Memory.read, hb]
      · simp [Memory.read, hb, Ne.symm hb]
  | cons c m ih =>
    have hlt := Memory.head_lt h
    have ih := ih (List.pairwise_cons.mp h).2
    unfold Memory.write
    split <;> rename_i h1
    · have hall : ∀ d ∈ c :: m, a < d.1 := by
        intro d hd
        rcases List.mem_cons.mp hd with rfl | hd
        · exact h1
        · exact Nat.lt_trans h1 (hlt d hd)
      split <;> rename_i hv
      · by_cases hb : b = a
        · subst hb; simp [hv, Memory.read_of_lt hall]
        · simp [hb]
      · by_cases hb : b = a
        · simp [Memory.read, hb]
        · simp [Memory.read, hb, Ne.symm hb]
    · split <;> rename_i h2
      · subst h2
        split <;> rename_i hv
        · by_cases hb : b = c.1
          · subst hb; simp [hv, Memory.read_of_lt hlt]
          · simp [Memory.read, hb, Ne.symm hb]
        · by_cases hb : b = c.1
          · simp [Memory.read, hb]
          · simp [Memory.read, hb, Ne.symm hb]
      · by_cases hb : b = a
        · subst hb; simp [Memory.read, h2, ih]
        · by_cases hc : c.1 = b <;> simp [Memory.read, hc, ih, hb]

/-- Every byte of a cleared block reads as 0, and every other address reads as before. -/
theorem Memory.read_clearBlock (m : Memory) (b : BlockId) (a : Nat) :
    (m.clearBlock b).read a = if a / Config.blockBytes = b.val then Memory.unlisted else m.read a := by
  induction m with
  | nil => simp [Memory.clearBlock]
  | cons c m ih =>
    unfold Memory.clearBlock at ih ⊢
    by_cases hc : c.1 / Config.blockBytes = b.val
    · simp only [List.filter_cons, hc, ne_eq, not_true_eq_false, decide_false, Bool.false_eq_true, if_false, ih]
      by_cases ha : a / Config.blockBytes = b.val
      · simp [ha]
      · have : c.1 ≠ a := fun e => ha (e ▸ hc)
        simp [ha, Memory.read, this]
    · simp only [List.filter_cons, hc, ne_eq, not_false_eq_true, decide_true, if_true, Memory.read, ih]
      by_cases ha : c.1 = a
      · subst ha; simp [hc]
      · simp [ha]

/-! ## The canonical form -/

theorem Memory.wf_nil : Memory.wf [] := by simp [Memory.wf]

/-- Every address listed after a store is the stored one or was listed before. -/
theorem Memory.mem_write {m : Memory} {a : Nat} {v : Byte} {c : Host.Cell} (h : c ∈ m.write a v) :
    c ∈ m ∨ (c = (a, v) ∧ v ≠ Memory.unlisted) := by
  induction m with
  | nil =>
    unfold Memory.write at h
    split at h <;> simp_all
  | cons d m ih =>
    unfold Memory.write at h
    split at h
    · split at h <;> simp_all
      tauto
    · split at h
      · split at h <;> simp_all
        tauto
      · rcases List.mem_cons.mp h with rfl | h
        · simp
        · rcases ih h with h | h
          · simp [h]
          · exact .inr h

/-- A store inside the pool keeps the canonical form. -/
theorem Memory.wf_write {m : Memory} (h : m.wf) {a : Nat} (ha : a < Config.poolBytes) (v : Byte) : (m.write a v).wf := by
  constructor
  · induction m with
    | nil => unfold Memory.write; split <;> simp
    | cons c m ih =>
      obtain ⟨hp, hb⟩ := h
      have hlt := Memory.head_lt hp
      have hp' := (List.pairwise_cons.mp hp).2
      unfold Memory.write
      split <;> rename_i h1
      · split
        · exact hp
        · refine List.pairwise_cons.mpr ⟨fun d hd => ?_, hp⟩
          rcases List.mem_cons.mp hd with rfl | hd
          · exact h1
          · exact Nat.lt_trans h1 (hlt d hd)
      · split <;> rename_i h2
        · subst h2
          split
          · exact hp'
          · exact List.pairwise_cons.mpr ⟨hlt, hp'⟩
        · refine List.pairwise_cons.mpr ⟨fun d hd => ?_, ih ⟨hp', fun d hd => hb d (by simp [hd])⟩⟩
          rcases Memory.mem_write hd with hd | ⟨rfl, -⟩
          · exact hlt d hd
          · show c.1 < a
            omega
  · intro c hc
    rcases Memory.mem_write hc with hc | ⟨rfl, hv⟩
    · exact h.2 c hc
    · exact ⟨ha, hv⟩

/-- Clearing a block keeps the canonical form. -/
theorem Memory.wf_clearBlock {m : Memory} (h : m.wf) (b : BlockId) : (m.clearBlock b).wf :=
  ⟨h.1.filter _, fun c hc => h.2 c (List.mem_of_mem_filter hc)⟩

/-- Every address of a block lies inside the pool. -/
theorem blockAddress_lt (b : BlockId) (off : Nat) : blockAddress b off < Config.poolBytes := by
  have := b.isLt
  have := Nat.mod_lt off (by decide : 0 < Config.blockBytes)
  simp only [blockAddress, Config.blockBytes, Config.poolBytes] at *
  omega

/-- Every address of a chain lies inside the pool. -/
theorem chainAddress_lt {chain : List BlockId} {off a : Nat} (h : chainAddress chain off = some a) :
    a < Config.poolBytes := by
  simp only [chainAddress, Option.map_eq_some_iff] at h
  obtain ⟨b, -, rfl⟩ := h
  exact blockAddress_lt b off

/-- A store on a chain keeps the canonical form. -/
theorem wf_chainPut {m : Memory} (h : m.wf) (chain : List BlockId) (off : Nat) (v : Byte) : (chainPut m chain off v).wf := by
  unfold chainPut
  split
  · exact Memory.wf_write h (chainAddress_lt (by assumption)) v
  · exact h

/-- Stores on a chain keep the canonical form. -/
theorem wf_chainPutAll {m : Memory} (h : m.wf) (chain : List BlockId) (off : Nat) (vs : List Byte) :
    (chainPutAll m chain off vs).wf := by
  induction vs generalizing m off with
  | nil => exact h
  | cons v vs ih => exact ih (wf_chainPut h chain off v) _

/-- The memory after reset is in canonical form. -/
theorem reset_mem_wf : State.reset.mem.wf := Memory.wf_nil

/-! ## Reading a chain -/

/-- Two offsets of one chain of distinct blocks name one address only when they are equal. -/
theorem chainAddress_inj {chain : List BlockId} (hn : chain.Nodup) {o p a : Nat} (ho : chainAddress chain o = some a)
    (hp : chainAddress chain p = some a) : o = p := by
  simp only [chainAddress, Option.map_eq_some_iff] at ho hp
  obtain ⟨b, hb, rfl⟩ := ho
  obtain ⟨c, hc, he⟩ := hp
  have ho' := Nat.mod_lt o (by decide : 0 < Config.blockBytes)
  have hp' := Nat.mod_lt p (by decide : 0 < Config.blockBytes)
  simp only [blockAddress, Config.blockBytes] at he ho' hp' hb hc
  have hbc : b = c := Fin.ext (by omega)
  subst hbc
  have hk : o / 32 = p / 32 := by
    obtain ⟨h1, h1'⟩ := List.getElem?_eq_some_iff.mp hb
    obtain ⟨h2, h2'⟩ := List.getElem?_eq_some_iff.mp hc
    exact (List.Nodup.getElem_inj_iff hn).mp (h1'.trans h2'.symm)
  omega

/-- The byte stored at an offset of a chain of distinct blocks reads back there, and every other offset reads as before. -/
theorem chainByte_chainPut {m : Memory} (h : m.wf) {chain : List BlockId} (hn : chain.Nodup) {off : Nat}
    (hoff : off / Config.blockBytes < chain.length) (v : Byte) (p : Nat) :
    chainByte (chainPut m chain off v) chain p = if p = off then v else chainByte m chain p := by
  have hsome : chainAddress chain off = some (blockAddress chain[off / Config.blockBytes] off) := by
    simp [chainAddress, List.getElem?_eq_getElem hoff]
  cases hp : chainAddress chain p with
  | none =>
    have : p ≠ off := by rintro rfl; simp [hsome] at hp
    simp [chainByte, hp, this]
  | some a =>
    simp only [chainByte, chainPut, hsome, hp, Memory.read_write h.1]
    by_cases he : p = off
    · subst he
      have : a = blockAddress chain[p / Config.blockBytes] p := by simpa [hsome] using hp.symm
      simp [this]
    · have : a ≠ blockAddress chain[off / Config.blockBytes] off := fun e =>
        he (chainAddress_inj hn hp (e ▸ hsome))
      simp [he, this]

end Sys2Proof.Machine
end

