-- ==== Sys2Proof/Laws/Ops.lean ====
section
/-! SUPPORT. One lemma for each shared operation that says what it can do, for proofs to cite instead of unfolding it. -/

namespace Sys2Proof.Machine

/-! ## Operands -/

theorem slotOperand_eq {op : Byte} {i : SlotId} (h : op.toNat = i.val) : slotOperand op = some i := by
  simp [slotOperand, h]

theorem slotOperand_none {op : Byte} (h : 16 ≤ op.toNat) : slotOperand op = none := by
  have : ¬ op.toNat < 16 := by omega
  simp [slotOperand, this]

theorem stationOperand_eq {op : Byte} {st : StationId} (h : op.toNat = st.val + 1) :
    stationOperand op = some st := by
  have : st.val + 1 ≤ 8 := st.isLt
  simp [stationOperand, h]

theorem stationOperand_none {op : Byte} (h : op.toNat = 0 ∨ 9 ≤ op.toNat) : stationOperand op = none := by
  have : ¬ (1 ≤ op.toNat ∧ op.toNat ≤ 8) := by omega
  simp only [stationOperand, this, dite_false]

theorem stationOfAddress_eq {a : BitVec 4} {st : StationId} (h : a.toNat = st.val + 1) :
    stationOfAddress a = some st := by
  have : st.val + 1 ≤ 8 := st.isLt
  simp [stationOfAddress, h]

theorem stationOfAddress_none {a : BitVec 4} (h : a.toNat = 0 ∨ 9 ≤ a.toNat) : stationOfAddress a = none := by
  have : ¬ (1 ≤ a.toNat ∧ a.toNat ≤ 8) := by omega
  simp only [stationOfAddress, this, dite_false]

/-- A descriptor names a station record exactly when its station field is 1 to 8. -/
theorem Descriptor.stationId_isSome (d : Descriptor) :
    d.stationId ≠ none ↔ 1 ≤ d.station.toNat ∧ d.station.toNat ≤ 8 := by
  unfold Descriptor.stationId stationOfAddress
  split <;> simp_all

/-- The station record a descriptor names is that of its station field. -/
theorem Descriptor.stationId_val {d : Descriptor} {st : StationId} (h : d.stationId = some st) :
    d.station.toNat = st.val + 1 := by
  unfold Descriptor.stationId stationOfAddress at h
  split at h
  · rename_i hb
    obtain rfl := Option.some.inj h
    simp only
    omega
  · cases h

/-! ## Record updates -/

/-- Writing a slot its own record changes nothing. -/
theorem State.setSlot_id (s : State) (i : SlotId) : s.setSlot i (s.slot i) = s := by
  have h : s.slots.set i.val (s.slots[i.val]) = s.slots := by simp
  show ({ s with slots := _ } : State) = s
  unfold State.slot
  rw [h]

theorem State.modSlot_id {s : State} {i : SlotId} {f : Slot → Slot} (h : f (s.slot i) = s.slot i) :
    s.modSlot i f = s := by
  rw [State.modSlot, h, State.setSlot_id]

theorem State.modSlot_modSlot (s : State) (i : SlotId) (f g : Slot → Slot) :
    (s.modSlot i f).modSlot i g = s.modSlot i fun x => g (f x) := by
  simp [State.modSlot, State.setSlot, State.slot]

/-- Writing a station its own record changes nothing. -/
theorem State.modStation_id {s : State} {st : StationId} {f : Station → Station}
    (h : f (s.station st) = s.station st) : s.modStation st f = s := by
  have e : s.stations.set st.val (s.stations[st.val]) = s.stations := by simp
  rw [State.modStation, h]
  show ({ s with stations := _ } : State) = s
  unfold State.station
  rw [e]

theorem State.modStation_modStation (s : State) (st : StationId) (f g : Station → Station) :
    (s.modStation st f).modStation st g = s.modStation st fun r => g (f r) := by
  simp [State.modStation, State.setStation, State.station]

/-! ## The pool -/

/-- Taking blocks one at a time takes the head of the free list, in order, each cleared. -/
theorem State.takeBlocks_eq (n : Nat) (s : State) (i : SlotId) (h : n ≤ s.freeList.length) :
    s.takeBlocks i n =
      ({ s with
          freeList := s.freeList.drop n
          mem := (s.freeList.take n).foldl Memory.clearBlock s.mem }).modSlot i fun x =>
        { x with chain := x.chain ++ s.freeList.take n } := by
  induction n generalizing s with
  | zero =>
    simp only [State.takeBlocks, List.drop_zero, List.take_zero, List.foldl_nil, List.append_nil]
    exact (State.modSlot_id rfl).symm
  | succ n ih =>
    cases hf : s.freeList with
    | nil => simp [hf] at h
    | cons b rest =>
      have hlen : n ≤ rest.length := by simpa [hf] using h
      simp only [State.takeBlocks, State.takeBlock, hf]
      rw [ih _ (by simpa using hlen)]
      simp [State.modSlot, State.setSlot, State.slot]

/-- Freeing a slot returns its whole chain and empties its record. -/
theorem State.freeSlot_eq (s : State) (i : SlotId) :
    s.freeSlot i = ({ s with freeList := s.freeList ++ (s.slot i).chain }).setSlot i Slot.empty := by
  simp [State.freeSlot, State.returnBlocks, State.modSlot, State.setSlot]

/-! ## The station's record of a slot -/

/-- Settling a poll timer writes the poll timer of that station alone, and only to `stopped`. -/
theorem State.settlePollTimer_eq (s : State) (st : StationId) :
    s.settlePollTimer st = s ∨ s.settlePollTimer st = s.modStation st fun r => { r with pollTimer := .stopped } := by
  unfold State.settlePollTimer
  split
  · exact .inl rfl
  · split
    · exact .inr rfl
    · exact .inr rfl
    · exact .inl rfl
    · exact .inl rfl

/-- Leaving a parked list changes the station table alone. -/
theorem State.leaveParked_frame (s : State) (st : StationId) (i : SlotId) :
    s.leaveParked st i = { s with stations := (s.leaveParked st i).stations } := by
  unfold State.leaveParked
  split
  · rcases (s.modStation st fun r => { r with parked := r.parked.erase i }).settlePollTimer_eq st with h | h <;>
      rw [h] <;> rfl
  · rfl

/-- Leaving a parked list touches no other station. -/
theorem State.leaveParked_station_ne (s : State) (st v : StationId) (i : SlotId) (h : v ≠ st) :
    (s.leaveParked st i).station v = s.station v := by
  unfold State.leaveParked
  split
  · rcases (s.modStation st fun r => { r with parked := r.parked.erase i }).settlePollTimer_eq st with e | e <;>
      rw [e] <;> simp [State.station_modStation_ne, h]
  · rfl

/-- Leaving a parked list removes the slot from it and may stop the poll timer; the rest of the record stands. -/
theorem State.leaveParked_station_self (s : State) (st : StationId) (i : SlotId) :
    (s.leaveParked st i).station st =
      { s.station st with
        parked := (s.station st).parked.erase i
        pollTimer := ((s.leaveParked st i).station st).pollTimer } := by
  unfold State.leaveParked
  split
  · rcases (s.modStation st fun r => { r with parked := r.parked.erase i }).settlePollTimer_eq st with e | e <;>
      rw [e] <;> simp
  · rename_i h
    have : (s.station st).parked.erase i = (s.station st).parked := by
      apply List.erase_of_not_mem
      simpa using h
    rw [this]

/-- Leaving a station changes the station table alone. -/
theorem State.leaveStation_frame (s : State) (i : SlotId) :
    s.leaveStation i = { s with stations := (s.leaveStation i).stations } := by
  unfold State.leaveStation
  split
  · rw [State.leaveParked_frame]
    rfl
  · rfl

/-- A slot that no station's record holds leaves its station unchanged. -/
theorem State.leaveStation_unlinked {s : State} {i : SlotId} (h : s.unlinked i) : s.leaveStation i = s := by
  unfold State.leaveStation
  split
  · rename_i st _
    have e : s.leaveEngaged st i = s := State.modStation_id (by simp [(h.2.2 st).1])
    rw [e]
    simp [State.leaveParked, (h.2.2 st).2]
  · rfl

/-! ## The completion step and the announcement -/

/-- The completion step as one record update; the station table is that of the slot's leaving its station. -/
theorem State.complete_eq {s : State} {i : SlotId} {r : Result} (h : (s.slot i).state.canComplete = true) :
    s.complete i r = { s with
      slots := s.slots.set i.val
        { (s.slot i).close r with chain := (s.slot i).chain.take (s.slot i).keptBlocks }
      urgent := s.urgent.erase i
      normal := s.normal.erase i
      freeList := s.freeList ++ (s.slot i).chain.drop (s.slot i).keptBlocks
      queue := s.queue ++ [(s.slot i).recordOf i r s.seqCounter]
      seqCounter := s.seqCounter + 1
      unannounced := s.unannounced + 1
      stations := ((s.leaveList i).leaveStation i).stations } := by
  have e := State.leaveStation_frame (s.leaveList i) i
  unfold State.complete
  simp only [h, if_true]
  rw [e]
  simp [State.modSlot, State.setSlot, State.returnBlocks, State.appendRecord, State.slot, State.leaveList,
    Slot.close]

/-- A slot in a state that does not complete is left as it is. -/
theorem State.complete_other {s : State} {i : SlotId} {r : Result} (h : (s.slot i).state.canComplete = false) :
    s.complete i r = s := by
  simp [State.complete, h]

/-- An event that appended no record makes no coalescing decision. -/
theorem State.announceSince_same {t s : State} (h : t.queue.length ≤ s.queue.length) : t.announceSince s = t := by
  simp [State.announceSince, Nat.not_lt.mpr h]

/-- An event that appended a record makes one. -/
theorem State.announceSince_grown {t s : State} (h : s.queue.length < t.queue.length) :
    t.announceSince s = t.coalesce := by
  simp [State.announceSince, h]

/-- The coalescing decision changes the COMPLETION cause, the unannounced count and the holdoff timer alone. -/
theorem State.coalesce_frame (s : State) :
    s.coalesce = { s with
      completionCause := s.coalesce.completionCause
      unannounced := s.coalesce.unannounced
      holdoffTimer := s.coalesce.holdoffTimer } := by
  unfold State.coalesce
  split
  · rfl
  · split <;> rfl

/-- A slot that the checks of R14 let through is refused by none of them. -/
theorem postRefusal_of_passesPost {x : Slot} {free : Nat} (h : x.passesPost free) : postRefusal x free = none := by
  obtain ⟨ha, hb, hd⟩ := h
  have hs : x.desc.stationId ≠ none := x.desc.stationId_isSome.mpr ⟨ha, hb⟩
  simp only [postRefusal, hs, if_false, Slot.len, Config.maxLength] at *
  cases hk : x.desc.kind <;> simp_all [Slot.reservation, blocksFor, roundUpDiv, Config.blockBytes]

/-! ## The line -/

/-- The end of a first byte touches the gap and the receiver alone. -/
theorem State.firstByteReceived_eq (s : State) : s.firstByteReceived =
    if s.receiver = .firstByte then { s with gapPassed := false, receiver := .frameOpen } else s := by
  unfold State.firstByteReceived
  split <;> simp_all

/-- A start bit touches the gap and the receiver alone: it begins a received frame, or a byte of the open one has been received. -/
theorem State.startByte_eq (s : State) : s.startByte =
    if s.receiver = .waiting then { s with receiver := .firstByte } else s.firstByteReceived := by
  unfold State.startByte
  split <;> simp_all [State.firstByteReceived_eq]

/-- After a start bit the received frame is open. -/
theorem State.startByte_open (s : State) : s.startByte.receiver ≠ .waiting := by
  rw [State.startByte_eq, State.firstByteReceived_eq]
  split
  · simp
  · split <;> simp_all

/-- What a late reply leaves to every table: it touches the gap, the receiver and its counter alone. -/
theorem State.countLate_tables (s : State) :
    s.countLate.slots = s.slots ∧ s.countLate.stations = s.stations ∧ s.countLate.link = s.link ∧
      s.countLate.frame = s.frame ∧ s.countLate.queue = s.queue := ⟨rfl, rfl, rfl, rfl, rfl⟩

/-- The end of a late reply leaves the line not idle. -/
theorem State.countLate_notIdle (s : State) : s.countLate.lineIdle = false := by
  simp [State.lineIdle, State.countLate]

/-- The levels of a frame follow those of its first byte. -/
@[simp] theorem frameLevels_cons (b : Byte) (bs : List Byte) : frameLevels (b :: bs) = lineBits b ++ frameLevels bs := rfl

/-- Bytes that an open received frame has room for end as one frame. -/
theorem groupBytes_short (bs : List RxByte) : ∀ (room : Nat) (acc : List RxByte), bs.length ≤ room →
    acc ++ bs ≠ [] → groupBytes room acc bs = [{ bytes := acc.reverse ++ bs, tooLong := false }] := by
  induction bs with
  | nil =>
    intro room acc _ hne
    cases acc with
    | nil => simp at hne
    | cons a as => simp [groupBytes]
  | cons b bs ih =>
    intro room acc hlen _
    match room, hlen with
    | room + 1, hlen =>
      rw [groupBytes, ih room (b :: acc) (by simpa using hlen) (by simp)]
      simp

/-! ## The fault step's cause -/

/-- An abort that ends unconfirmed leaves no attempt (R153). -/
theorem State.endAbort_unconfirmed {s : State} {i : SlotId} {violation : Bool}
    (h : (s.slot i).abortEnds violation = true) :
    s.endAbort i violation = (s.modSlot i fun x => { x with abortAttempts := 0 }).completePending i true := by
  simp [State.endAbort, State.modSlot, h]

/-- A first failed attempt that reaches the threshold leaves the attempts as they are (assumption log 20). -/
theorem State.endAbort_attempt {s : State} {i : SlotId} {violation : Bool}
    (h : (s.slot i).abortEnds violation = false) : s.endAbort i violation = s.completePending i true := by
  rw [State.endAbort, State.modSlot_id (by simp [h])]

/-! ## The scheduler -/

/-- At a line that is not idle the scheduler does nothing. -/
theorem State.dispatch_busy {s : State} (h : s.lineIdle = false) : s.dispatch = s := by simp [State.dispatch, h]

/-- What the scheduler never changes: the lists, the pool, the link, the queue and its announcement, the causes, the
command status, the configuration, the snapshot and the waiting commands. -/
structure SchedulerFrame (s t : State) : Prop where
  urgent : t.urgent = s.urgent
  normal : t.normal = s.normal
  freeList : t.freeList = s.freeList
  mem : t.mem = s.mem
  link : t.link = s.link
  silentCount : t.silentCount = s.silentCount
  lineFault : t.lineFault = s.lineFault
  takenRate : t.takenRate = s.takenRate
  queue : t.queue = s.queue
  seqCounter : t.seqCounter = s.seqCounter
  unannounced : t.unannounced = s.unannounced
  holdoffTimer : t.holdoffTimer = s.holdoffTimer
  completionCause : t.completionCause = s.completionCause
  linkCause : t.linkCause = s.linkCause
  mask : t.mask = s.mask
  status : t.status = s.status
  statusSlot : t.statusSlot = s.statusSlot
  selected : t.selected = s.selected
  cfg : t.cfg = s.cfg
  snap : t.snap = s.snap
  readData : t.readData = s.readData
  pending : t.pending = s.pending

theorem SchedulerFrame.refl (s : State) : SchedulerFrame s s := by constructor <;> rfl

theorem SchedulerFrame.trans {s t u : State} (h : SchedulerFrame s t) (k : SchedulerFrame t u) :
    SchedulerFrame s u := by
  constructor <;> simp only [h.urgent, h.normal, h.freeList, h.mem, h.link, h.silentCount, h.lineFault, h.takenRate,
    h.queue, h.seqCounter, h.unannounced, h.holdoffTimer, h.completionCause, h.linkCause, h.mask, h.status,
    h.statusSlot, h.selected, h.cfg, h.snap, h.readData, h.pending, k.urgent, k.normal, k.freeList, k.mem, k.link,
    k.silentCount, k.lineFault, k.takenRate, k.queue, k.seqCounter, k.unannounced, k.holdoffTimer, k.completionCause,
    k.linkCause, k.mask, k.status, k.statusSlot, k.selected, k.cfg, k.snap, k.readData, k.pending]

theorem State.sendSlotFrame_frame (s : State) (i : SlotId) : SchedulerFrame s (s.sendSlotFrame i) := by
  unfold State.sendSlotFrame
  dsimp only
  split <;> constructor <;> rfl

theorem State.resumeSlot_frame (s : State) (i : SlotId) : SchedulerFrame s (s.resumeSlot i) := by
  unfold State.resumeSlot
  split
  · rw [State.leaveParked_frame]
    constructor <;> rfl
  · exact .refl s

/-- The scheduler's part of an event changes the slot table, the station table, the frame, the gap, the receiver and the statistics
alone. -/
theorem State.dispatch_frame (s : State) : SchedulerFrame s s.dispatch := by
  unfold State.dispatch
  split
  · split
    · rename_i c _
      cases c with
      | slotFrame i => exact State.sendSlotFrame_frame s i
      | resume i => exact (State.resumeSlot_frame s i).trans (State.sendSlotFrame_frame _ i)
      | sync st => constructor <;> rfl
      | poll st => constructor <;> rfl
    · exact .refl s
  · exact .refl s

end Sys2Proof.Machine
end

