-- ==== Sys2Proof/Tests/Slice0.lean ====
section
/-! SUPPORT. Tests of the model against words, bytes and rows written out from the spec, one step each on a small state, and
a witness for the hypotheses of every statement that has any. -/

namespace Sys2Proof.Tests

open Sys2Proof.Machine

set_option Elab.async false

/-! ## Small states -/

/-- The state after a command that is taken. -/
def after (c : Instr) (s : State) : State :=
  match exec c s with
  | .next t => t
  | .fault _ => s
  | .refused _ => s

/-- The state after a step. -/
def stepped (s : State) : State :=
  match step s with
  | .next t => t
  | .fault _ => s
  | .refused _ => s

/-- The command is taken with a next state. -/
def isTaken (c : Instr) (s : State) : Bool :=
  match exec c s with
  | .next _ => true
  | .fault _ => false
  | .refused _ => false

/-- The command is refused as no command of the spec. -/
def isNoCommand (c : Instr) (s : State) : Bool :=
  match exec c s with
  | .refused .notACommand => true
  | .refused (.notModelled _) => false
  | .next _ => false
  | .fault _ => false

/-- A slot for station 1, class NORMAL, with the chain that its length needs: blocks 0 upward. -/
def slotOf (kind : Kind) (state : SlotState) (len : Nat) : Slot :=
  { Slot.empty with
    state := state
    desc := { Descriptor.claimed with kind := kind, length := BitVec.ofNat 10 len }
    chain := initialFreeList.take (blocksFor len)
    fillCursor := if kind = .store then 4 * ((len + 3) / 4) else 0
    retriesLeft := 3 }

/-- An ONLINE station of park depth 2, with a slot engaged or parked as its state says. -/
def stationFor (x : Slot) : Station :=
  { Station.initial with
    state := .online
    parkDepth := 2
    engaged := if x.state = .opened ∨ x.state = .aborting then some 0 else none
    parked := if x.state = .parked then [0] else []
    pollTimer := if x.state = .parked ∧ x.ready = false then .running 5 else .stopped }

/-- RUNNING with slot 0 at station 1, in the NORMAL list while it is posted and unfinished. -/
def holding (x : Slot) : State :=
  { State.reset with
    link := .running
    slots := State.reset.slots.set 0 x
    stations := State.reset.stations.set 0 (stationFor x)
    freeList := initialFreeList.drop x.chain.length
    normal := if x.state.isActive then [0] else [] }

/-- A frame to station 1 whose reply is being received. -/
def frameOf (kind : FrameKind) (slot : Option SlotId) (index : Nat) : Frame :=
  { kind := kind, station := 0, slot := slot, index := index, phase := .receiving, replyTimer := none, bytes := [] }

/-- Slot 0 with its frame in flight, the reply being received. -/
def flying (x : Slot) (kind : FrameKind) (index : Nat) : State :=
  { holding { x with inFlight := true } with
    frame := some (frameOf kind (some 0) index), receiver := .frameOpen }

/-- The same with the frame in AWAITING, its reply timer started with 25 steps. -/
def waiting (x : Slot) (kind : FrameKind) (index : Nat) : State :=
  { flying x kind index with
    frame := some { frameOf kind (some 0) index with phase := .awaiting, replyTimer := some 25 }
    receiver := .waiting }

def queuedStore : Slot := slotOf .store .queued 70
def openStore : Slot := slotOf .store .opened 70
def openFetch : Slot := slotOf .fetch .opened 70
def finishing : Slot := { slotOf .control .opened 0 with phase := .finishing }
def parkedControl : Slot := { slotOf .control .parked 0 with phase := .finishing }
def aborting : Slot :=
  { slotOf .control .aborting 0 with pendingOutcome := some .cancelled, abortAttempts := 2 }

/-- A state whose station 1 has the given record and that holds the given slot 0. -/
def stationed (x : Slot) (r : Station) : State :=
  { holding x with stations := State.reset.stations.set 0 r }

def probing : Station := { Station.initial with state := .probing, probeAttempts := 3 }

/-- A SYNC to the PROBING station 1 whose reply is being received. -/
def syncing (x : Slot) (attempts : Nat) : State :=
  { stationed x { probing with probeAttempts := attempts } with
    frame := some (frameOf .sync none 0), receiver := .frameOpen }

/-- The frame of a state in AWAITING instead, its reply timer started with `n` steps. -/
def awaiting (s : State) (n : Nat) : State :=
  { s with
    frame := s.frame.map fun f => { f with phase := .awaiting, replyTimer := some n }
    receiver := .waiting }

/-- A POLL to station 1, with slot 0 parked and the poll timer held. -/
def polling : State :=
  { stationed parkedControl { stationFor parkedControl with pollTimer := .held } with
    frame := some (frameOf .poll none 0), receiver := .frameOpen }

/-- A completion record of slot 0. -/
def record0 : Record :=
  { seq := 0, slot := 0, station := 1, kind := .control, outcome := .ok, bytesMoved := 0, short := false
    stationStatus := some 0, retriesUsed := 0, busyReplies := 0, lateStop := false, abortUnconfirmed := false }

/-- Slot 0 COMPLETE, its record at the head of the queue. -/
def completed : State :=
  { holding { slotOf .control .complete 0 with outcome := some .ok, stationStatus := some 0 } with
    queue := [record0], seqCounter := 1, unannounced := 1 }

/-- Slot 0 a COMPLETE FETCH of 5 bytes, moved to block 0. -/
def drained : State :=
  { holding { slotOf .fetch .complete 5 with bytesMoved := 5 } with
    mem := [(0, 0x11), (1, 0x22), (2, 0x33), (3, 0x44), (4, 0x55)] }

/-! ## Ill-formed commands -/

theorem test_unknownCommand_refuses_listed_code : (Instr.unknownCommand 0x3F).wellFormed = false := by decide
theorem test_ignoredWrite_refuses_writable_word : (Instr.ignoredWrite 0 0).wellFormed = false := by decide
theorem test_backoffExpiry_refuses_station_zero : (Instr.backoffExpiry 0).wellFormed = false := by decide
theorem test_pollTimerExpiry_refuses_station_nine : (Instr.pollTimerExpiry 9).wellFormed = false := by decide
theorem test_wellFormed_boundaries : (Instr.unknownCommand 0x08).wellFormed = true ∧
    (Instr.ignoredWrite 25 7).wellFormed = true ∧ (Instr.backoffExpiry 8).wellFormed = true ∧
    (Instr.pollTimerExpiry 1).wellFormed = true := by decide
theorem test_ill_formed_stop : isNoCommand (.unknownCommand 0x01) State.reset = true ∧
    isNoCommand (.ignoredWrite 16 0) State.reset = true ∧ isTaken (.backoffExpiry 9) State.reset = false := by
  decide +kernel

/-! ## Words and bytes written out from the spec -/

/-- R189: SELECT 15 is code 02h in bits 0 to 7 and the operand in bits 8 to 15; bits 16 to 31 are ignored. -/
theorem test_decode_select : decodeHostWrite 0 0xABCD0F02 = .select 15 := by decide
theorem test_decode_enableStation : decodeHostWrite 0 0x00000410 = .enableStation 4 := by decide
theorem test_decode_linkStart : decodeHostWrite 0 0x00000020 = .linkStart := by decide
theorem test_decode_softReset : decodeHostWrite 0 0x0000003F = .softReset := by decide
theorem test_decode_unlisted_code : decodeHostWrite 0 0x00000008 = .unknownCommand 8 := by decide
theorem test_decode_registers : decodeHostWrite 4 70 = .lengthWrite 70 ∧ decodeHostWrite 12 1 = .causeWrite 1 ∧
    decodeHostWrite 25 5 = .ignoredWrite 25 5 ∧ decodeHostWrite 31 5 = .ignoredWrite 31 5 := by decide
/-- No row of the opcode table carries bits. -/
theorem test_table_gives_no_bits : decodeTableWord 8 1 = none := rfl

/-- The check value below R50: the nine bytes 31h to 39h give 29B1h. -/
theorem test_crc_check_value :
    crc16 [0x31, 0x32, 0x33, 0x34, 0x35, 0x36, 0x37, 0x38, 0x39] = 0x29B1 := by decide +kernel

/-- 3.8: an OPEN is 13 bytes, a SEND of 64 bytes is 72, and an ACCEPT is 8. -/
theorem test_frame_lengths :
    (buildSlotFrame [] 4 (slotOf .store .queued 64) .openReq 5 0).bytes.length = 13 ∧
    (buildSlotFrame [] 4 (slotOf .store .opened 64) .send 5 0).bytes.length = 72 ∧
    (stationFrame 5 2 4 0 0 []).bytes.length = 8 := by decide +kernel

/-- R48, R51: the first bytes of the OPEN for slot 4, station 6, a STORE of 64 bytes. -/
theorem test_open_bytes :
    (buildSlotFrame [] 4 (slotOf .store .queued 64) .openReq 5 0).bytes.take 11 =
      [0xB4, 6, 2, 4, 0, 5, 1, 0, 0, 64, 0] := by decide +kernel

/-- Below R58: a CRC-correct GIVE of 30 bytes when 20 remain is a violation, and one of 0 bytes is valid. -/
theorem test_give_checks :
    (flying { slotOf .fetch .opened 20 with phase := .data } .pull 0).commandOfFrame
      (stationFrame 0 5 0 0 0 (List.replicate 30 1)) = .violationReply ∧
    (flying { slotOf .fetch .opened 20 with phase := .data } .pull 0).commandOfFrame
      (stationFrame 0 5 0 0 0 []) = .give [] := by decide +kernel

/-- Below R58: a TAKEN from station 4 in answer to a SEND to another station is garbled, and a TAKEN of another index is a
violation. -/
theorem test_taken_checks :
    (flying openStore .send 0).commandOfFrame (stationFrame 3 4 0 0 0 []) = .garbledReply ∧
    (flying openStore .send 0).commandOfFrame (stationFrame 0 4 0 1 0 []) = .violationReply ∧
    (flying openStore .send 0).commandOfFrame (stationFrame 0 4 0 0 0 []) = .taken := by decide +kernel

/-! ## One step of each command -/

/-- R186, R191: the defaults. -/
theorem test_powerOnReset : (after .powerOnReset completed).cfg.word0 = 0x04081901 ∧
    (after .powerOnReset completed).cfg.word1 = 0x0001050A := by decide +kernel
theorem test_softReset_keeps_configuration :
    (after .softReset { completed with cfg := { completed.cfg with holdoff := 9 } }).cfg.holdoff = 9 ∧
    (after .softReset completed).queue = [] := by decide +kernel
theorem test_claim : (after .claim State.reset).readWord 1 = 0x1000 ∧
    (after .claim State.reset).readWord 2 = 0x311 := by decide +kernel
theorem test_select_last : (after (.select 15) State.reset).readWord 1 = 0xF0000 := by decide +kernel
theorem test_select_beyond : (after (.select 16) State.reset).status = .badOperand := by decide +kernel
theorem test_post_fetch_reserves :
    (after (.post 0) (holding { slotOf .fetch .claimed 100 with chain := [] })).freeList.length = 124 := by
  decide +kernel
theorem test_post_enters_sending :
    ((after (.post 0) { holding (slotOf .control .claimed 0) with gapPassed := true }).frame.map Frame.kind) =
      some .openReq := by decide +kernel
theorem test_drop : ((after (.drop 0) (holding (slotOf .store .claimed 70))).slot 0) = Slot.empty := by
  decide +kernel
theorem test_cancel_open : ((after (.cancel 0) (holding openStore)).slot 0).state = .aborting ∧
    ((after (.cancel 0) (holding openStore)).station 0).engaged = some 0 := by decide +kernel
theorem test_pop : (after .pop completed).readWord 1 = 0x1000 ∧ ((after .pop completed).slot 0).state = .settled := by
  decide +kernel
theorem test_release_open_refused : (after (.release 0) (holding openStore)).status = .wrongState := by
  decide +kernel
theorem test_enableStation : ((after (.enableStation 8) State.reset).station 7).state = .probing := by decide +kernel
theorem test_disableStation_online :
    ((after (.disableStation 1) (holding openStore)).station 0).state = .withdrawing ∧
    ((after (.disableStation 1) (holding openStore)).slot 0).outcome = some .withdrawn := by decide +kernel
/-- R72: the failures of a FAULTY station become 0 when it is disabled. -/
theorem test_disableStation_faulty :
    ((after (.disableStation 1) (stationed Slot.empty
      { Station.initial with state := .faulty, failures := 4, parkDepth := 2 })).readWord 17) = 0x00000020 := by decide +kernel
theorem test_linkStart_no_station : (after .linkStart State.reset).link = .running := by decide +kernel
theorem test_linkStop_with_frame : (after .linkStop (flying openStore .send 0)).link = .stopping := by decide +kernel
theorem test_linkResume_off : (after .linkResume State.reset).status = .linkState := by decide +kernel
theorem test_snapshotClear :
    (after .snapshotClear { State.reset with stats := { Stats.zero with lateReplies := 5 } }).readWord 29 = 5 ∧
    (after .snapshotClear { State.reset with stats := { Stats.zero with lateReplies := 5 } }).stats.lateReplies = 0 := by
  decide +kernel
theorem test_snapshot_keeps_counters :
    (after .snapshot { State.reset with stats := { Stats.zero with waitReplies := 5 } }).stats.waitReplies = 5 := by
  decide +kernel
theorem test_unknownCommand : (after (.unknownCommand 0) State.reset).readWord 1 = 10 := by decide +kernel
theorem test_descriptorWrite :
    (after (.descriptorWrite .desc0 0x00AB2735) (holding (slotOf .store .claimed 0))).readWord 2 = 0x00AB2735 := by
  decide +kernel
theorem test_lengthWrite : (after (.lengthWrite 0xFFFFFFFF) (holding (slotOf .store .claimed 0))).readWord 4 = 0x3FF := by
  decide +kernel
theorem test_dataWindowWrite :
    (after (.dataWindowWrite 0x44332211)
      (holding { slotOf .store .claimed 6 with chain := [], fillCursor := 0 })).mem =
      [(0, 0x11), (1, 0x22), (2, 0x33), (3, 0x44)] := by decide +kernel
theorem test_dataWindowWrite_past_length :
    (after (.dataWindowWrite 0x44332211)
      (holding { slotOf .store .claimed 6 with chain := [0], fillCursor := 4 })).mem = [(4, 0x11), (5, 0x22)] := by
  decide +kernel
theorem test_dataWindowRead : (after .dataWindowRead drained).readData = 0x44332211 ∧
    (after .dataWindowRead (after .dataWindowRead drained)).readData = 0x00000055 := by decide +kernel
theorem test_causeWrite : (after (.causeWrite 1) { completed with completionCause := true }).completionCause = false := by
  decide +kernel
theorem test_maskWrite_lowers_intN : (after (.maskWrite 4) { State.reset with linkCause := true }).intN = false := by
  decide +kernel
theorem test_cfg0Write_holds_ends : (after (.cfg0Write 0) State.reset).cfg.word0 = 0x01020100 := by decide +kernel
theorem test_cfg1Write_holds_ends : (after (.cfg1Write 0xFFFFFFFF) State.reset).cfg.word1 = 0xFF10FFFF := by
  decide +kernel
theorem test_cfg1Write_threshold_announces : (after (.cfg1Write 0x00010101) completed).completionCause = true := by
  decide +kernel
theorem test_ignoredWrite : after (.ignoredWrite 25 7) State.reset = State.reset := by decide +kernel
theorem test_lineFaultAsserted : (after .lineFaultAsserted (holding openStore)).link = .suspended ∧
    ((after .lineFaultAsserted (holding openStore)).slot 0).outcome = some .linkLost := by decide +kernel
theorem test_lineFaultNegated : (after .lineFaultNegated { State.reset with lineFault := true }).lineFault = false := by
  decide +kernel
theorem test_gapEnd_sends : ((after .interFrameGapEnd (holding openStore)).frame.map Frame.kind) = some .send ∧
    (after .interFrameGapEnd (holding openStore)).lineDE = true := by decide +kernel
theorem test_frameSent :
    ((after .frameSent { holding openStore with
      frame := some { frameOf .send (some 0) 0 with phase := .sending } }).frame.map Frame.phase) = some .awaiting := by
  decide +kernel
/-- R47: the gap may end while the reply is awaited; R182: a LINE_FAULT then leaves it ended, and in RECEIVING it does not. -/
theorem test_gapEnd_awaiting : (after .interFrameGapEnd (waiting openStore .send 0)).gapPassed = true ∧
    (after .lineFaultAsserted (after .interFrameGapEnd (waiting openStore .send 0))).gapPassed = true ∧
    (after .lineFaultAsserted (flying openStore .send 0)).gapPassed = false := by decide +kernel
/-- R42, R60: a frame that is cut short by a LINE_FAULT releases the line and leaves it high. -/
theorem test_lineTx : (after .interFrameGapEnd (holding openStore)).lineTx 0 = false ∧
    (after .lineFaultAsserted (after .interFrameGapEnd (holding openStore))).lineTx 0 = true ∧
    (after .lineFaultAsserted (after .interFrameGapEnd (holding openStore))).lineDE = false := by decide +kernel
/-- R43: the opener B4h on the line, bit 0 first. -/
theorem test_line_levels : frameLevels [0xB4, 0x06] =
    [false, false, false, true, false, true, true, false, true, true,
      false, false, true, true, false, false, false, false, false, true] := by decide
/-- R43, R46: at 1 Mbit/s a start bit 29 µs after the last stop bit continues the frame, and one 30 µs after does not. -/
theorem test_receivedFrames :
    let b (idle : Nat) : TimedByte := { idle := idle, byte := { value := 0xB4, framingError := false } }
    (receivedFrames .mbit1 [b 5000, b 0, b 928, b 960, b 0]).map (fun x => x.bytes.length) = [3, 2] := by decide
/-- 3.8: at 1220 the SEND 0 is silent, and chosen again in the same moment after the retry. -/
theorem test_replyTimeout_retries : ((after .replyTimeout (waiting openStore .send 0)).slot 0).retriesLeft = 2 ∧
    ((after .replyTimeout (waiting openStore .send 0)).frame.map Frame.index) = some 0 ∧
    (after .replyTimeout (waiting openStore .send 0)).lineDE = true := by decide +kernel
theorem test_garbledReply_last_retry :
    ((after .garbledReply (flying { openStore with retriesLeft := 0 } .send 0)).slot 0).outcome = some .linkError := by
  decide +kernel
theorem test_lateReply : (after .lateReply State.reset).stats.lateReplies = 1 := by decide +kernel
/-- R47, R59: within the first byte of a late reply a POST at an idle line sends at once and cuts the reply off; once the byte has
been received, by the next start bit or by time, a POST sends nothing, and the gap cannot end before the late reply does. -/
theorem test_replyBegins_late_firstByte :
    let s := after .interFrameGapEnd (after .replyBegins (holding (slotOf .control .claimed 0)))
    s.receiver = .firstByte ∧ s.gapPassed = true ∧ ((after (.post 0) s).frame.map Frame.kind) = some .openReq ∧
      (after (.post 0) s).receiver = .waiting := by decide +kernel
theorem test_replyBegins_late_received :
    let s := after .interFrameGapEnd (after .replyBegins (holding (slotOf .control .claimed 0)))
    let t := after .replyBegins s
    stepped s = t ∧ t.receiver = .frameOpen ∧ (after .interFrameGapEnd (after (.post 0) t)).frame = none ∧
      ((after .interFrameGapEnd (after (.post 0) (after .lateReply t))).frame.map Frame.kind) = some .openReq := by
  decide +kernel
theorem test_present : ((after (.present 3) (syncing queuedStore 3)).station 0).parkDepth = 3 := by decide +kernel
theorem test_present_four_is_violation : ((after (.present 4) (syncing queuedStore 3)).station 0).probeAttempts = 2 := by
  decide +kernel
theorem test_accept : ((after .accept (flying queuedStore .openReq 0)).slot 0).state = .opened ∧
    ((after .accept (flying queuedStore .openReq 0)).station 0).engaged = some 0 := by decide +kernel
theorem test_refuse : ((after (.refuse 9) (flying queuedStore .openReq 0)).slot 0).stationStatus = some 9 := by
  decide +kernel
theorem test_taken : ((after .taken (flying openStore .send 0)).slot 0).bytesMoved = 64 ∧
    (after .taken (flying openStore .send 0)).stats.payloadBytes = 64 := by decide +kernel
theorem test_taken_last : ((after .taken (flying { openStore with nextIndex := 1, bytesMoved := 64 } .send 1)).slot 0).phase
    = .finishing := by decide +kernel
theorem test_give_short : ((after (.give [7, 8]) (flying openFetch .pull 0)).slot 0).short = true ∧
    (after (.give [7, 8]) (flying openFetch .pull 0)).mem = [(0, 7), (1, 8)] := by decide +kernel
theorem test_result : ((after (.result 5) (flying finishing .finish 0)).slot 0).outcome = some .stationError := by
  decide +kernel
theorem test_wait : ((after .wait (flying openStore .send 0)).station 0).backoff = some 10 ∧
    ((after .wait (flying openStore .send 0)).slot 0).busySeen = 1 := by decide +kernel
theorem test_park : ((after .park (flying openStore .send 0)).station 0).parked = [0] ∧
    ((after .park (flying openStore .send 0)).station 0).pollTimer = .running 5 := by decide +kernel
theorem test_nothing : ((after .nothing polling).station 0).pollTimer = .running 5 := by decide +kernel
theorem test_ready : ((after (.ready 0) polling).slot 0).ready = true ∧
    ((after (.ready 0) polling).station 0).pollTimer = .stopped := by decide +kernel
theorem test_done : ((after .done (flying aborting .abort 0)).slot 0).outcome = some .cancelled := by decide +kernel
theorem test_holdoffExpiry : (after .holdoffExpiry { completed with holdoffTimer := some 5 }).completionCause = true := by
  decide +kernel
theorem test_backoffExpiry :
    ((after (.backoffExpiry 1) (stationed openStore { stationFor openStore with backoff := some 10 })).station 0).backoff
      = none := by decide +kernel
theorem test_pollTimerExpiry : ((after (.pollTimerExpiry 1) (holding parkedControl)).station 0).pollTimer = .expired := by
  decide +kernel
theorem test_lifetimeExpiry :
    ((after (.lifetimeExpiry 0) (holding { queuedStore with lifetimeTimer := some 30 })).slot 0).outcome =
      some .timedOut := by decide +kernel
/-- R152, R153: at the threshold the attempts of a final failure become 0. -/
theorem test_abort_fails_at_threshold :
    let s := { flying { aborting with abortAttempts := 1 } .abort 0 with
      stations := State.reset.stations.set 0 { stationFor aborting with failures := 3 } }
    ((after .garbledReply s).slot 0).abortAttempts = 0 ∧ ((after .garbledReply s).slot 0).abortUnconfirmed = true ∧
      ((after .garbledReply s).slot 0).outcome = some .cancelled := by decide +kernel
theorem test_violationReply : ((after .violationReply (flying openStore .send 0)).slot 0).pendingOutcome = some .protocol := by
  decide +kernel
theorem test_replyBegins : ((after .replyBegins (waiting openStore .send 0)).frame.map Frame.phase) = some .receiving := by
  decide +kernel

/-! ## Witnesses: a state and operands that meet the hypotheses of each statement, clause by clause -/

/-- Two slots at station 1: slot 0 as given and slot 15 QUEUED, both in the NORMAL list. -/
def holdingTwo (x : Slot) (r : Station) : State :=
  { stationed x r with
    slots := (stationed x r).slots.set 15 { slotOf .control .queued 0 with possiblyOpened := true }
    normal := if x.state.isActive then [0, 15] else [15] }

theorem witness_StepRunsFrontCommand :
    ({ State.reset with pending := [.claim, .pop] } : State).pending = .claim :: [.pop] ∧
    (after .replyBegins State.reset).pending = [] ∧ (after .replyBegins State.reset).receiver = .firstByte := by
  decide +kernel

theorem witness_EveryCommandIsTaken : (Instr.backoffExpiry 8).wellFormed = true ∧ (0x3F : Byte) ∈ commandCodes ∧
    (16 : BitVec 5) ∈ writableWords ∧ (0 : BitVec 4).toNat = 0 ∧ 9 ≤ (9 : BitVec 4).toNat := by decide

theorem witness_HostWriteRoundTrip : (Instr.select 255).wellFormed = true ∧
    encodeHostWrite (.select 255) = some (0, 0xFF02) ∧
    (0xABCDFF02 : Word).extractLsb' 0 16 = (0x0000FF02 : Word).extractLsb' 0 16 ∧
    (0xABCDFF01 : Word).extractLsb' 0 8 = (0x00000001 : Word).extractLsb' 0 8 ∧
    (0xABCDFF01 : Word).extractLsb' 0 8 ∉ [(0x02 : Byte), 0x03, 0x04, 0x05, 0x07, 0x10, 0x11] := by decide

/-- Two bytes of a frame with their positions; a frame being sent; and bytes 3 byte-times apart less a clock, and 3 byte-times. -/
theorem witness_LineLevelsAndReceivedFrames :
    ([0xB4, 6] : List Byte)[1]? = some 6 ∧
    (after .interFrameGapEnd (holding openStore)).frame.isSome = true ∧
    (after .interFrameGapEnd (holding openStore)).lineDE = true ∧ State.reset.lineDE = false ∧
    (∀ c ∈ List.replicate 71 ({ idle := 959, byte := { value := 0, framingError := false } } : TimedByte),
      c.idle < 30 * BitRate.mbit1.bitClocks) ∧
    (List.replicate 71 ({ idle := 959, byte := { value := 0, framingError := false } } : TimedByte)).length = 71 ∧
    30 * BitRate.mbit1.bitClocks ≤ ({ idle := 960, byte := { value := 0, framingError := false } } : TimedByte).idle := by
  decide +kernel

/-- A PULL 7 with a full GIVE, and a SYNC, which no slot has. -/
theorem witness_StationFrameIsClassified :
    ((flying openFetch .pull 7).frame = some (frameOf .pull (some 0) 7) ∧
      (frameOf .pull (some 0) 7).phase = .receiving ∧ (frameOf .pull (some 0) 7).station = 0 ∧
      (List.replicate 64 (1 : Byte)).length ≤ 64 ∧
      (0 : Nat) = ((frameOf .pull (some 0) 7).slot.map fun i => i.val).getD 0) ∧
    ((syncing queuedStore 3).frame = some (frameOf .sync none 0) ∧ (frameOf .sync none 0).phase = .receiving ∧
      (0 : Nat) = ((frameOf .sync none 0).slot.map fun i => i.val).getD 0) := by decide +kernel

/-- Below R58: a frame of 10 bytes whose byte 5 is 1, garbled by check 5; a well-formed TAKEN with one byte of its CRC changed,
garbled by check 6; and a TAKEN of another index and an unlisted kind code, which are violations. -/
theorem witness_WrongFramesAreNotTaken :
    let s := flying openStore .send 0
    let x := stationFrame 0 4 0 0 0 []
    s.frame = some (frameOf .send (some 0) 0) ∧ State.reset.frame = none ∧
    s.commandOfFrame { x with bytes := (stationFrame 0 6 0 0 0 [1]).bytes ++ x.bytes.take 1 } = .garbledReply ∧
    s.commandOfFrame { x with bytes := x.bytes.set 7 { value := 0, framingError := false } } = .garbledReply ∧
    s.commandOfFrame { x with tooLong := true } = .garbledReply ∧
    s.commandOfFrame (stationFrame 0 4 0 2 0 []) = .violationReply ∧
    s.commandOfFrame (stationFrame 0 12 0 0 0 []) = .violationReply ∧
    s.commandOfFrame (stationFrame 0 6 0 0 0 []) = .violationReply ∧ s.commandOfFrame x = .taken := by decide +kernel

theorem witness_ClaimAndSelect :
    (completed.slot 1).state = .free ∧ (∀ j : SlotId, j < 1 → (completed.slot j).state ≠ .free) ∧
    (∀ i : SlotId, (({ completed with slots := Vector.replicate 16 queuedStore } : State).slot i).state ≠ .free) ∧
    (15 : Byte).toNat = (15 : SlotId).val := by decide +kernel

theorem witness_SlotCommandRefusals : 16 ≤ (16 : Byte).toNat ∧ (0 : Byte).toNat = (0 : SlotId).val ∧
    ((holding openStore).slot 0).state ≠ .claimed ∧ ((holding openStore).slot 0).state ≠ .settled ∧
    (completed.slot 0).state ∉ [SlotState.queued, .opened, .parked] ∧
    ((holding { openStore with stopRequest := some .timedOut }).slot 0).stopRequest ≠ none := by decide +kernel

theorem witness_DropAndReleaseFreeTheSlot : (0 : Byte).toNat = (0 : SlotId).val ∧
    ((holding (slotOf .store .claimed 512)).slot 0).state = .claimed ∧
    ((holding (slotOf .fetch .settled 33)).slot 0).state = .settled := by decide +kernel

/-- The fields that the clauses of SlotCommandRefusals on POST ask for, at the ends of their ranges. -/
theorem witness_SlotCommandRefusals_post : (0 : Byte).toNat = (0 : SlotId).val ∧
    (slotOf .store .claimed 513).state = .claimed ∧
    ¬ (1 ≤ (0 : BitVec 4).toNat ∧ (0 : BitVec 4).toNat ≤ 8) ∧ ¬ (1 ≤ (9 : BitVec 4).toNat ∧ (9 : BitVec 4).toNat ≤ 8) ∧
    (slotOf .store .claimed 0).len = 0 ∧ 512 < (slotOf .store .claimed 513).len ∧
    (1 ≤ (slotOf .store .claimed 512).len ∧ (slotOf .store .claimed 512).len ≤ 512 ∧
      { slotOf .store .claimed 512 with fillError := true }.fillError = true ∧
      { slotOf .store .claimed 512 with fillCursor := 508 }.fillCursor < (slotOf .store .claimed 512).len) ∧
    (512 < (slotOf .fetch .claimed 513).len ∧ { slotOf .fetch .claimed 1 with fillCursor := 4 }.fillCursor ≠ 0) ∧
    (1 ≤ (slotOf .fetch .claimed 512).len ∧ (slotOf .fetch .claimed 512).len ≤ 512 ∧
      (slotOf .fetch .claimed 512).fillCursor = 0 ∧
      (initialFreeList.take 15).length < ((slotOf .fetch .claimed 512).len + 31) / 32) ∧
    ((slotOf .control .claimed 1).len ≠ 0 ∧ { slotOf .control .claimed 0 with fillCursor := 4 }.fillCursor ≠ 0) ∧
    (slotOf .control .claimed 0).passesPost 0 ∧ (slotOf .store .claimed 512).passesPost 0 ∧
    (slotOf .fetch .claimed 512).passesPost 16 ∧
    (stationed (slotOf .control .claimed 0) Station.initial).stationStateOf (slotOf .control .claimed 0) =
      some .disabled := by
  refine ⟨by decide, by decide, by decide, by decide, by decide, by decide, by decide, by decide, by decide,
    by decide, ⟨by decide, by decide, ?_⟩, ⟨by decide, by decide, ?_⟩, ⟨by decide, by decide, ?_⟩, by decide +kernel⟩
  · show _ = 0 ∧ _ = 0
    decide
  · show 1 ≤ _ ∧ _ ≤ 512 ∧ _ = false ∧ _ ≤ _
    decide
  · show 1 ≤ _ ∧ _ ≤ 512 ∧ _ = 0 ∧ _ ≤ 16
    decide

theorem witness_PostQueuesTheSlot : (0 : Byte).toNat = (0 : SlotId).val ∧
    ((holding (slotOf .control .claimed 0)).slot 0).state = .claimed ∧
    ((holding (slotOf .control .claimed 0)).slot 0).passesPost (holding (slotOf .control .claimed 0)).freeList.length ∧
    (holding (slotOf .control .claimed 0)).stationStateOf ((holding (slotOf .control .claimed 0)).slot 0) =
      some .online := by
  refine ⟨by decide, by decide +kernel, ⟨by decide +kernel, by decide +kernel, ?_⟩, by decide +kernel⟩
  show _ = 0 ∧ _ = 0
  decide +kernel

theorem witness_PostCompletesAtOnce : ∀ q ∈ [StationState.absent, .faulty],
    let s := stationed (slotOf .control .claimed 0) { Station.initial with state := q }
    (s.slot 0).state = .claimed ∧ (s.slot 0).passesPost s.freeList.length ∧ s.unlinked 0 ∧
      s.stationStateOf (s.slot 0) = some q := by
  intro q hq
  simp only [List.mem_cons, List.not_mem_nil, or_false] at hq
  rcases hq with rfl | rfl
  all_goals
    refine ⟨by decide +kernel, ⟨by decide +kernel, by decide +kernel, ?_⟩, ?_, by decide +kernel⟩
    · show _ = 0 ∧ _ = 0
      decide +kernel
    · unfold State.unlinked
      decide +kernel

theorem witness_StopIsHeldOverAFrame : (∀ x ∈ [queuedStore, openStore, parkedControl],
    let s := holding { x with inFlight := true, lifetimeTimer := some 4095 }
    (s.slot 0).state ∈ [SlotState.queued, .opened, .parked] ∧ (s.slot 0).stopRequest = none ∧
      (s.slot 0).inFlight = true ∧ (s.slot 0).lifetimeTimer = some 4095) ∧
    ∀ x ∈ [aborting, { openStore with stopRequest := some .cancelled }],
      let s := holding { x with lifetimeTimer := some 1 }
      ((s.slot 0).state = .aborting ∨ (s.slot 0).stopRequest ≠ none) ∧ (s.slot 0).lifetimeTimer = some 1 := by
  decide +kernel

theorem witness_StopActsAtOnce :
    ∀ x ∈ [queuedStore, { queuedStore with possiblyOpened := true }, openStore, parkedControl],
    let s := holding { x with lifetimeTimer := some 1 }
    (s.slot 0).desc.stationId = some 0 ∧ (s.slot 0).stopRequest = none ∧ (s.slot 0).inFlight = false ∧
      (s.slot 0).state ∈ [SlotState.queued, .opened, .parked] ∧ (s.slot 0).lifetimeTimer = some 1 := by
  decide +kernel

theorem witness_PopTakesTheHead : completed.queue = record0 :: [] ∧ (completed.slot record0.slot).state = .complete ∧
    State.reset.queue = [] := by decide +kernel

theorem witness_EnableStationAndRefusals : (0 : Byte).toNat = 0 ∧ 9 ≤ (9 : Byte).toNat ∧
    (8 : Byte).toNat = (7 : StationId).val + 1 ∧ (State.reset.station 7).state ∈ [StationState.disabled, .absent, .faulty] ∧
    ((holding openStore).station 0).state ∈ [StationState.probing, .online, .withdrawing] ∧
    (State.reset.station 7).state ∈ [StationState.disabled, .withdrawing] := by decide +kernel

/-- A PROBING station with a QUEUED and an ABORTING slot; the link RUNNING, and STARTING with no frame in flight. -/
theorem witness_DisableStationAtOnce : ∀ link ∈ [LinkState.running, .starting],
    let s := { holdingTwo aborting probing with link := link }
    (1 : Byte).toNat = (0 : StationId).val + 1 ∧ s.listsMatch ∧ s.stationsQuiet ∧
      (s.station 0).state ∈ [StationState.probing, .absent, .faulty] ∧ s.frame = none ∧
      (∀ v : StationId, v ≠ 0 → (s.station v).state ∉ [StationState.probing, .withdrawing]) ∧
      s.walkAt 0 [.queued, .aborting] = [0, 15] := by decide +kernel

theorem witness_DisableOnlineBeginsWithdrawal :
    let s := flying openStore .send 0
    (1 : Byte).toNat = (0 : StationId).val + 1 ∧ s.listsMatch ∧ s.engagement ∧ (s.station 0).state = .online := by
  refine ⟨by decide, by decide +kernel, ⟨by decide +kernel, ?_⟩, by decide +kernel⟩
  intro i
  refine ⟨?_, ?_, ?_, ?_, ?_⟩ <;> revert i <;> decide +kernel

/-- A QUEUED slot whose OPEN in flight holds a stop request, neither engaged nor parked: a withdrawal leaves the request held. -/
theorem witness_DisableOnlineBeginsWithdrawal_queued :
    let s := flying { queuedStore with stopRequest := some .cancelled } .openReq 0
    s.listsMatch ∧ s.engagement ∧ (s.station 0).state = .online ∧ (s.slot 0).desc.stationId = some 0 ∧
      (s.station 0).engaged ≠ some 0 ∧ 0 ∉ (s.station 0).parked ∧
      ((after (.disableStation 1) s).slot 0).stopRequest = some .cancelled ∧
      ((after (.disableStation 1) s).slot 0).inFlight = false := by
  refine ⟨by decide +kernel, ⟨by decide +kernel, ?_⟩, by decide +kernel, by decide +kernel, by decide +kernel,
    by decide +kernel, by decide +kernel, by decide +kernel⟩
  intro i
  refine ⟨?_, ?_, ?_, ?_, ?_⟩ <;> revert i <;> decide +kernel

/-- A SEND whose slot a withdrawal has completed, answered by TAKEN and by silence. -/
theorem witness_DetachedReportsChangeNoSlot :
    let s := after (.disableStation 1) (flying openStore .send 0)
    let u := after (.disableStation 1) (waiting openStore .send 0)
    (s.link = .running ∧ s.frame = some (frameOf .send (some 0) 0) ∧ (s.slot 0).inFlight = false ∧
      (s.station 0).state = .withdrawing ∧ (frameOf .send (some 0) 0).kind ∉ [FrameKind.sync, .poll] ∧
      s.replyValid (frameOf .send (some 0) 0) .taken = true ∧
      s.failsBy (frameOf .send (some 0) 0) .violationReply) ∧
    (u.failsBy { frameOf .send (some 0) 0 with phase := .awaiting, replyTimer := some 25 } .replyTimeout ∧
      u.keepsLink .replyTimeout) := by
  unfold State.failsBy State.keepsLink
  decide +kernel

theorem witness_LinkCommandsAndLineFault : State.reset.link = .off ∧ State.reset.lineFault = false ∧ State.reset.frame = none ∧
    (∀ st : StationId, (State.reset.station st).state ≠ .probing ∧ (State.reset.station st).state ≠ .withdrawing) ∧
    ((stationed queuedStore probing).station 0).state = .probing ∧
    ({ State.reset with link := .suspended, lineFault := true } : State).lineFault = true := by decide +kernel

theorem witness_LinkCommandsAndLineFault_stop :
    ((flying openStore .send 0).link ∈ [LinkState.starting, .running] ∧ (flying openStore .send 0).frame ≠ none) ∧
    ((holding openStore).link ∈ [LinkState.starting, .running] ∧ (holding openStore).frame = none) ∧
    State.reset.link ∈ [LinkState.off, .stopping] ∧ State.reset.link ∈ [LinkState.off, .suspended] := by decide +kernel

/-- An OPEN slot beside a QUEUED one; a QUEUED slot whose frame in flight holds a stop request; one of a WITHDRAWING station. -/
theorem witness_StopOrLossStep :
    (holdingTwo openStore (stationFor openStore)).listsMatch ∧
    (holdingTwo openStore (stationFor openStore)).stationsQuiet ∧
    (flying { queuedStore with stopRequest := some .timedOut } .openReq 0).listsMatch ∧
    (flying { queuedStore with stopRequest := some .timedOut } .openReq 0).stationsQuiet ∧
    (stationed queuedStore { probing with state := .withdrawing, withdrawAttempts := 2 }).listsMatch ∧
    (stationed queuedStore { probing with state := .withdrawing, withdrawAttempts := 2 }).stationsQuiet := by
  decide +kernel

/-- A reply whose first byte is arriving when the frame is abandoned, after the gap has passed in AWAITING. -/
theorem witness_StopOrLossStep_firstByte :
    let s := after .replyBegins (after .interFrameGapEnd (waiting openStore .send 0))
    s.listsMatch ∧ s.stationsQuiet ∧ s.gapPassed = true ∧ (s.frame.map Frame.phase) = some .receiving ∧
    s.receiver = .firstByte := by decide +kernel

theorem witness_ReportsThatTakeTheLinkDown :
    let s := { flying openStore .send 0 with link := .stopping }
    let u := { waiting openStore .send 0 with silentCount := 7 }
    let v := { awaiting (syncing queuedStore 3) 25 with link := .stopping }
    let w := { flying finishing .finish 0 with link := .stopping }
    (s.link = .stopping ∧ s.frame = some (frameOf .send (some 0) 0) ∧ (frameOf .send (some 0) 0).phase = .receiving) ∧
    (u.link ∈ [LinkState.running, .stopping] ∧ (u.frame.map Frame.phase) = some .awaiting ∧
      (u.frame.bind Frame.replyTimer) = some 25 ∧ (u.frame.map Frame.kind) = some .send ∧
      u.cfg.linkLossThreshold ≤ u.silentCount + 1) ∧
    (v.link = .stopping ∧ (v.frame.map Frame.phase) = some .awaiting ∧ (v.frame.bind Frame.replyTimer) = some 25 ∧
      (v.frame.map Frame.kind) = some .sync) ∧
    (w.frame = some (frameOf .finish (some 0) 0) ∧ (w.slot 0).inFlight = true ∧ (w.slot 0).desc.stationId = some 0 ∧
      (w.slot 0).offers (frameOf .finish (some 0) 0)) ∧ endsByReply .taken ∧ endsByReply (.present 3) := by
  unfold Slot.offers
  refine ⟨?_, ?_, ?_, ?_, trivial, trivial⟩ <;> decide +kernel

theorem witness_UnknownCommandsAndIgnoredWrites : (0x40 : Byte) ∉ commandCodes ∧ (0 : Byte) ∉ commandCodes ∧
    (31 : BitVec 5).toNat ∈ [1, 5, 6, 8, 9, 10, 11, 14, 17, 18, 19, 20, 21, 22, 23, 24, 25, 26, 27, 28, 29, 30, 31] := by
  decide

theorem witness_DescriptorAndLengthWrites :
    let s := holding { slotOf .store .claimed 70 with fillCursor := 4 }
    (s.slot s.selected).state = .claimed ∧ (s.slot s.selected).fillCursor ≠ 0 ∧
      ((holding (slotOf .control .claimed 0)).slot 0).fillCursor = 0 ∧
      ((holding openStore).slot 0).state ≠ .claimed := by decide +kernel

/-- The last word of a full STORE, with no new block to take. -/
theorem witness_DataWindowWrite :
    let s := holding { slotOf .store .claimed 512 with fillCursor := 508 }
    (s.memoryCanonical ∧ s.poolConserved ∧ s.chainsFit) ∧ (s.slot s.selected).state = .claimed ∧
      (s.slot s.selected).desc.kind = .store ∧ (s.slot s.selected).fillCursor < (s.slot s.selected).len ∧
      (s.slot s.selected).fillCursor < 512 := by decide +kernel

/-- A filling write at a block boundary, with a block to take. -/
theorem witness_DataWindowWrite_block :
    let u := holding { slotOf .store .claimed 512 with fillCursor := 480, chain := initialFreeList.take 15 }
    (u.memoryCanonical ∧ u.poolConserved ∧ u.chainsFit) ∧ (u.slot u.selected).fillCursor % 32 = 0 ∧
      u.freeList ≠ [] := by decide +kernel

/-- The cursor at the length, an empty pool at a block boundary, and a kind that is not filled. -/
theorem witness_DataWindowWrite_dropped :
    ((holding (slotOf .store .claimed 512)).slot 0).len ≤ ((holding (slotOf .store .claimed 512)).slot 0).fillCursor ∧
      (slotOf .store .claimed 0).fillCursor % 32 = 0 ∧
      ({ holding (slotOf .store .claimed 0) with freeList := [] } : State).freeList = [] ∧
      ((holding (slotOf .fetch .claimed 8)).slot 0).desc.kind ≠ .store := by decide +kernel

theorem witness_DataWindowRead : (drained.slot drained.selected).state ∈ [SlotState.complete, .settled] ∧
    (drained.slot drained.selected).desc.kind = .fetch ∧
    (drained.slot drained.selected).readCursor < (drained.slot drained.selected).bytesMoved ∧
    ((holding openStore).slot 0).state ∉ [SlotState.complete, .settled] := by decide +kernel

/-- An unannounced count at the new threshold of 1, and one of 0. -/
theorem witness_ConfigurationWrites : 1 ≤ completed.unannounced ∧
    (after (.cfg1Write 0x00010101) completed).cfg.completionThreshold ≤ completed.unannounced ∧
    State.reset.unannounced = 0 := by decide +kernel

/-- A record at the head of the queue, an empty queue, and the words of stations 1 and 8. -/
theorem witness_WindowReads : completed.queue = record0 :: [] ∧ State.reset.queue = [] ∧
    (17 : BitVec 5).toNat = 17 + (0 : StationId).val ∧ (24 : BitVec 5).toNat = 17 + (7 : StationId).val ∧
    (after .dataWindowRead drained).readData = drained.readWord 7 := by decide +kernel

theorem witness_OrderOfChoice :
    let owed := holdingTwo aborting (stationFor aborting)
    let sync := holdingTwo queuedStore probing
    let due := stationed parkedControl { stationFor parkedControl with pollTimer := .expired }
    let resumes := holding { parkedControl with ready := true }
    (owed.link = .running ∧ owed.walkOrder = [] ++ 0 :: [15] ∧ (owed.slot 0).state = .aborting ∧
      owed.stationStateOf (owed.slot 0) = some .online) ∧
    ((∀ i ∈ sync.walkOrder, (sync.slot i).state ≠ .aborting) ∧ (sync.station 0).state = .probing) ∧
    ((∀ st : StationId, (due.station st).owesSync = false) ∧ (due.station 0).state = .online ∧
      (due.station 0).pollTimer = .expired ∧ (due.station 0).backoff = none) ∧
    (resumes.walkOrder = [] ++ 0 :: [] ∧ (resumes.slot 0).desc.stationId = some 0 ∧ (resumes.slot 0).nextFrame ≠ none ∧
      (resumes.slot 0).state = .parked ∧ (resumes.slot 0).ready = true ∧ (resumes.station 0).engaged = none) ∧
    ((holding openStore).walkOrder = [] ++ 0 :: [] ∧ ((holding openStore).slot 0).nextFrame ≠ none ∧
      ((holding openStore).station 0).backoff = none) ∧
    State.reset.walkOrder = [] := by decide +kernel

theorem witness_OrderOfChoice_outsideRunning :
    let s := { stationed queuedStore probing with link := .starting, gapPassed := true }
    State.reset.link ∈ [LinkState.off, .stopping, .suspended] ∧ State.reset.gapPassed = false ∧
      (flying openStore .send 0).frame ≠ none ∧
      (s.link = .starting ∧ (s.station 0).owesSync = true) ∧
      ∀ st : StationId, (State.reset.station st).owesSync = false := by decide +kernel

theorem witness_ChosenFramesEnterSending :
    let s := { holding queuedStore with gapPassed := true }
    let u := { holding { parkedControl with ready := true } with gapPassed := true }
    let v := { stationed queuedStore probing with gapPassed := true }
    (s.frame = none ∧ s.gapPassed = true ∧ s.choose = some (.slotFrame 0) ∧ (s.slot 0).state = .queued ∧
      (s.slot 0).desc.stationId = some 0) ∧
    (u.frame = none ∧ u.gapPassed = true ∧ u.choose = some (.resume 0) ∧ (u.slot 0).state = .parked ∧
      (u.slot 0).desc.stationId = some 0 ∧ u.parkedFits 0 ∧ u.pollFits 0 ∧ 0 ∈ (u.station 0).parked ∧
      (u.slot 0).nextFrame = some (.finish, 0)) ∧
    (v.frame = none ∧ v.gapPassed = true ∧ v.choose = some (.sync 0)) := by decide +kernel

theorem witness_ChosenFramesEnterSending_data :
    let s := { holding { openStore with nextIndex := 1, bytesMoved := 64 } with gapPassed := true }
    let u := { stationed parkedControl { stationFor parkedControl with pollTimer := .expired } with gapPassed := true }
    (s.frame = none ∧ s.gapPassed = true ∧ s.choose = some (.slotFrame 0) ∧
      (s.slot 0).state ∈ [SlotState.opened, .aborting] ∧ (s.slot 0).desc.stationId = some 0 ∧
      (s.slot 0).nextFrame = some (.send, 1)) ∧
    (u.frame = none ∧ u.gapPassed = true ∧ u.choose = some (.poll 0)) := by decide +kernel

theorem witness_LineAndTimerEvents : State.reset.frame = none ∧ State.reset.receiver ≠ .frameOpen ∧
    State.reset.receiver = .waiting ∧ (after .replyBegins State.reset).receiver = .firstByte ∧
    (after .replyBegins (after .replyBegins State.reset)).receiver = .frameOpen ∧
    (waiting openStore .send 0).receiver ≠ .frameOpen ∧
    ((waiting openStore .send 0).frame.map Frame.phase) = some .awaiting ∧
    ∃ f : Frame, { holding openStore with
      frame := some { frameOf .send (some 0) 0 with phase := .sending } }.frame = some f ∧ f.phase = .sending :=
  ⟨by decide +kernel, by decide +kernel, by decide +kernel, by decide +kernel, by decide +kernel, by decide +kernel,
    by decide +kernel, _, rfl, rfl⟩

theorem witness_LineAndTimerEvents_timers : (8 : BitVec 4).toNat = (7 : StationId).val + 1 ∧
    ((stationed openStore { stationFor openStore with backoff := some 255 }).station 0).backoff ≠ none ∧
    ((holding parkedControl).station 0).pollTimer = .running 5 ∧
    ({ completed with holdoffTimer := some 255 } : State).holdoffTimer = some 255 := by decide +kernel

/-- The frames that a slot offers, received with no stop request held. -/
theorem witness_replies : ∀ p ∈ [(queuedStore, FrameKind.openReq), (openStore, .send), (openFetch, .pull), (finishing, .finish)],
    (flying p.1 p.2 0).receives (frameOf p.2 (some 0) 0) 0 ∧
      ((flying p.1 p.2 0).slot 0).offers (frameOf p.2 (some 0) 0) ∧ ((flying p.1 p.2 0).slot 0).stopRequest = none ∧
      ((flying p.1 p.2 0).station 0).parked.length < ((flying p.1 p.2 0).station 0).parkDepth ∧
      ((flying p.1 p.2 0).station 0).failures + 1 < (flying p.1 p.2 0).cfg.faultThreshold ∧
      (0 : SlotId) ∉ ((flying p.1 p.2 0).station 0).parked ∧ 0 < ((flying p.1 p.2 0).slot 0).retriesLeft := by
  unfold State.receives Slot.offers
  decide +kernel

theorem witness_AcceptAndPark :
    (flying queuedStore .openReq 0).receives (frameOf .openReq (some 0) 0) 0 ∧
      ((flying queuedStore .openReq 0).slot 0).offers (frameOf .openReq (some 0) 0) ∧
    (flying openStore .send 0).receives (frameOf .send (some 0) 0) 0 ∧
      ((flying openStore .send 0).slot 0).offers (frameOf .send (some 0) 0) ∧
      (frameOf .send (some 0) 0).kind ≠ .openReq := by
  unfold State.receives Slot.offers
  decide +kernel

theorem witness_ClosingRepliesComplete :
    let s := flying { finishing with stopRequest := some .cancelled } .finish 0
    s.receives (frameOf .finish (some 0) 0) 0 ∧ (s.slot 0).offers (frameOf .finish (some 0) 0) ∧ (1 : Byte) ≠ 0 ∧
      (frameOf .openReq (some 0) 0).kind = .openReq := by
  unfold State.receives Slot.offers
  decide +kernel

/-- The last, short segment of a STORE, and a full GIVE of the first segment of a FETCH. -/
theorem witness_DataRepliesCountTheBytes :
    let s := flying { openStore with nextIndex := 1, bytesMoved := 64 } .send 1
    let u := flying openFetch .pull 0
    (s.receives (frameOf .send (some 0) 1) 0 ∧ (s.slot 0).offers (frameOf .send (some 0) 1) ∧
      (s.slot 0).stopRequest = none) ∧
    (u.receives (frameOf .pull (some 0) 0) 0 ∧ (u.slot 0).offers (frameOf .pull (some 0) 0) ∧
      (List.replicate 64 (5 : Byte)).length ≤ (u.slot 0).len - (u.slot 0).bytesMoved) := by
  unfold State.receives Slot.offers
  decide +kernel

theorem witness_ChainStoreReadsBack : Memory.wf [(0, 1), (4095, 2)] ∧ ([127, 0] : List BlockId).Nodup ∧
    60 + ([1, 0, 3, 4] : List Byte).length ≤ 32 * ([127, 0] : List BlockId).length := by decide

/-- A QUEUED slot whose busy allowance runs out before it opened. -/
theorem witness_WaitAndTheBusyLimit :
    let s := flying { queuedStore with
      desc := { openStore.desc with busyAllowance := 1 }, busyLeft := 1, possiblyOpened := true } .openReq 0
    s.receives (frameOf .openReq (some 0) 0) 0 ∧ (s.slot 0).offers (frameOf .openReq (some 0) 0) ∧
      (s.slot 0).stopRequest = none ∧ (s.slot 0).desc.busyAllowance ≠ 0 ∧ (s.slot 0).busyLeft = 1 ∧
      (s.slot 0).retriesUsed = 0 := by
  unfold State.receives Slot.offers
  decide +kernel

/-- An OPEN slot whose busy allowance runs out; and one whose allowance is unlimited. -/
theorem witness_WaitAndTheBusyLimit_open :
    let u := flying { openStore with desc := { openStore.desc with busyAllowance := 1 }, busyLeft := 1 } .send 0
    u.receives (frameOf .send (some 0) 0) 0 ∧ (u.slot 0).offers (frameOf .send (some 0) 0) ∧
      (u.slot 0).stopRequest = none ∧ (u.slot 0).desc.busyAllowance ≠ 0 ∧ (u.slot 0).busyLeft = 1 ∧
      0 ∉ (u.station 0).parked ∧ ((flying openStore .send 0).slot 0).desc.busyAllowance = 0 := by
  unfold State.receives Slot.offers
  decide +kernel

theorem witness_ClosingRepliesComplete_done :
    let s := flying aborting .abort 0
    s.receives (frameOf .abort (some 0) 0) 0 ∧ (frameOf .abort (some 0) 0).index = 0 ∧ (s.slot 0).state = .aborting ∧
      (s.slot 0).pendingOutcome = some .cancelled := by
  unfold State.receives
  decide +kernel

theorem witness_PollReplies : polling.link = .running ∧ polling.frame = some (frameOf .poll none 0) ∧
    (frameOf .poll none 0).phase = .receiving ∧ (polling.station 0).state = .online ∧
    (polling.station 0).pollTimer = .held ∧ 0 ∈ (polling.station 0).parked := by decide +kernel

/-- A POLL garbled below the threshold, and one silent at it. -/
theorem witness_FailedPolls :
    let u := { awaiting polling 25 with cfg := { polling.cfg with faultThreshold := 1 } }
    (polling.failsBy (frameOf .poll none 0) .garbledReply ∧ polling.keepsLink .garbledReply ∧
      (polling.station 0).failures + 1 < polling.cfg.faultThreshold) ∧
    (u.link = .running ∧ (u.station 0).state = .online ∧ (u.station 0).pollTimer = .held ∧ u.listsMatch ∧
      u.failsBy { frameOf .poll none 0 with phase := .awaiting, replyTimer := some 25 } .replyTimeout ∧
      u.keepsLink .replyTimeout ∧ u.cfg.faultThreshold ≤ (u.station 0).failures + 1) := by
  unfold State.failsBy State.keepsLink
  decide +kernel

theorem witness_PresentBringsTheStationOnline : ∀ link ∈ [LinkState.starting, .running],
    let s := { holdingTwo aborting probing with frame := some (frameOf .sync none 0), link := link }
    s.listsMatch ∧ s.stationsQuiet ∧ s.link = link ∧ s.frame = some (frameOf .sync none 0) ∧
      (s.station 0).state = .probing ∧ (3 : Byte).toNat ≤ 3 ∧
      (∀ i : SlotId, (s.slot i).state = .aborting → (s.slot i).pendingOutcome = some .cancelled) ∧
      ∀ v : StationId, v ≠ 0 → (s.station v).state ≠ .probing ∧ (s.station v).state ≠ .withdrawing := by decide +kernel

/-- A garbled reply with retries left, a silent timeout with none, and a violation. -/
theorem witness_FailedRepliesOfASlot :
    let f := frameOf .send (some 0) 0
    let g := { f with phase := .awaiting, replyTimer := some 25 }
    let s := flying openStore .send 0
    let u := waiting { openStore with retriesLeft := 0 } .send 0
    (s.serves f 0 ∧ s.failsBy f .garbledReply ∧ s.failsBy f .violationReply ∧ s.keepsLink .garbledReply ∧
      (s.slot 0).offers f ∧ (s.slot 0).stopRequest = none ∧ (s.station 0).failures + 1 < s.cfg.faultThreshold ∧
      0 < (s.slot 0).retriesLeft ∧ 0 ∉ (s.station 0).parked) ∧
    (u.serves g 0 ∧ u.failsBy g .replyTimeout ∧ u.keepsLink .replyTimeout ∧ (u.slot 0).offers g ∧
      (u.slot 0).stopRequest = none ∧ (u.slot 0).retriesLeft = 0) := by
  unfold State.serves State.failsBy State.keepsLink Slot.offers
  and_intros <;> decide +kernel

theorem witness_InvalidRepliesAreViolations :
    (flying openFetch .pull 0).frame = some (frameOf .pull (some 0) 0) ∧ (frameOf .pull (some 0) 0).phase = .receiving ∧
    (List.replicate 64 (1 : Byte)).length ≤ 64 ∧ 64 < (List.replicate 65 (1 : Byte)).length ∧
    ((flying (slotOf .fetch .opened 63) .pull 0).slot 0).len - 0 < (List.replicate 64 (1 : Byte)).length ∧
    (0 : SlotId) ∉ ((flying openFetch .pull 0).station 0).parked ∧ 3 < (4 : Byte).toNat := by decide +kernel

/-- A SEND that is answered, and one that is silent, over a held stop. -/
theorem witness_HeldStopIsResolvedAtTheReport :
    let f := frameOf .send (some 0) 0
    let g := { f with phase := .awaiting, replyTimer := some 25 }
    let x := { openStore with stopRequest := some .timedOut }
    let s := flying x .send 0
    let u := waiting x .send 0
    (s.serves f 0 ∧ (s.slot 0).offers f ∧ (s.slot 0).stopRequest = some .timedOut ∧ f.phase = .receiving ∧
      (s.station 0).failures + 1 < s.cfg.faultThreshold ∧ s.failsBy f .violationReply ∧
      0 ∉ (s.station 0).parked ∧ (s.station 0).parked.length < (s.station 0).parkDepth) ∧
    (u.serves g 0 ∧ (u.slot 0).offers g ∧ u.failsBy g .replyTimeout ∧ u.keepsLink .replyTimeout) := by
  unfold State.serves State.failsBy State.keepsLink Slot.offers
  and_intros <;> decide +kernel

/-- An OPEN over a held stop, whose WAIT leaves no context and, after a retry, one that may; and a PULL with a GIVE. -/
theorem witness_HeldStopIsResolvedAtTheReport_open :
    let f := frameOf .openReq (some 0) 0
    let g := frameOf .pull (some 0) 0
    let x := { queuedStore with stopRequest := some .cancelled, possiblyOpened := true }
    let s := flying x .openReq 0
    let u := flying { x with retriesUsed := 1, retriesLeft := 2 } .openReq 0
    let v := flying { openFetch with stopRequest := some .cancelled } .pull 0
    (s.serves f 0 ∧ (s.slot 0).offers f ∧ (s.slot 0).retriesUsed = 0) ∧
    (u.serves f 0 ∧ (u.slot 0).offers f ∧ (u.slot 0).retriesUsed ≠ 0 ∧ (u.slot 0).possiblyOpened = true) ∧
    (v.serves g 0 ∧ (v.slot 0).offers g ∧ (List.replicate 64 (1 : Byte)).length ≤ (v.slot 0).len - (v.slot 0).bytesMoved) := by
  unfold State.serves Slot.offers
  and_intros <;> decide +kernel

theorem witness_FailedProbes : ∀ n ∈ [1, 2, 3], ∀ link ∈ [LinkState.starting, .running],
    let s := { syncing queuedStore n with link := link }
    let u := awaiting s 1
    let f := { frameOf .sync none 0 with phase := .awaiting, replyTimer := some 1 }
    s.listsMatch ∧ s.stationsQuiet ∧ s.link ∈ [LinkState.starting, .running] ∧
      s.failsBy (frameOf .sync none 0) .garbledReply ∧ (s.station 0).state = .probing ∧
      (s.station 0).probeAttempts = n ∧ u.listsMatch ∧ u.stationsQuiet ∧ u.failsBy f .replyTimeout := by
  unfold State.failsBy
  decide +kernel

theorem witness_WithdrawalEnds : ∀ n ∈ [1, 2], ∀ link ∈ [LinkState.starting, .running],
    let s := { stationed { parkedControl with ready := false }
        { Station.initial with state := .withdrawing, withdrawAttempts := n, parkDepth := 2 } with
      frame := some (frameOf .sync none 0), link := link }
    let u := awaiting s 1
    let f := { frameOf .sync none 0 with phase := .awaiting, replyTimer := some 1 }
    s.listsMatch ∧ s.link ∈ [LinkState.starting, .running] ∧ s.frame = some (frameOf .sync none 0) ∧
      (s.station 0).state = .withdrawing ∧ (s.station 0).withdrawAttempts = n ∧ (3 : Byte).toNat ≤ 3 ∧
      s.walkAt 0 [.queued, .parked, .aborting] = [0] ∧ s.failsBy (frameOf .sync none 0) .violationReply ∧
      u.listsMatch ∧ u.failsBy f .replyTimeout := by
  unfold State.failsBy
  decide +kernel

/-- A garbled SEND and a silent ABORT, each at the threshold, beside a QUEUED slot. -/
theorem witness_FaultCascade : ∀ p ∈ [(openStore, FrameKind.send), (aborting, .abort)],
    let f := frameOf p.2 (some 0) 0
    let g := { f with phase := .awaiting, replyTimer := some 25 }
    let s := { holdingTwo p.1 { stationFor p.1 with failures := 3 } with
      slots := (holdingTwo p.1 (stationFor p.1)).slots.set 0 { p.1 with inFlight := true, retriesLeft := 0 }
      frame := some f }
    let u := awaiting s 25
    (s.listsMatch ∧ s.serves f 0 ∧ s.failsBy f .garbledReply ∧ s.keepsLink .garbledReply ∧
      s.cfg.faultThreshold ≤ (s.station 0).failures + 1) ∧
    (u.listsMatch ∧ u.serves g 0 ∧ u.failsBy g .replyTimeout ∧ u.keepsLink .replyTimeout) ∧
    ((s.slot 0).offers f ∨ (f.kind = .abort ∧ f.index = 0 ∧ (s.slot 0).state = .aborting ∧
      (s.slot 0).pendingOutcome = some .cancelled)) := by
  unfold State.serves State.failsBy State.keepsLink Slot.offers
  intro p hp
  rcases List.mem_pair.mp hp with rfl | rfl <;> and_intros <;> decide +kernel

theorem witness_FailedAborts : ∀ n ∈ [1, 2],
    let f := frameOf .abort (some 0) 0
    let g := { f with phase := .awaiting, replyTimer := some 25 }
    let s := flying { aborting with abortAttempts := n } .abort 0
    let u := waiting { aborting with abortAttempts := n } .abort 0
    (s.serves f 0 ∧ s.failsBy f .garbledReply ∧ s.failsBy f .violationReply ∧ s.keepsLink .garbledReply ∧
      s.listsMatch ∧ (s.slot 0).state = .aborting ∧ (s.slot 0).pendingOutcome = some .cancelled ∧
      (s.station 0).failures + 1 < s.cfg.faultThreshold ∧ (s.slot 0).abortAttempts = n) ∧
    (u.serves g 0 ∧ u.failsBy g .replyTimeout ∧ u.keepsLink .replyTimeout ∧ u.listsMatch) := by
  unfold State.serves State.failsBy State.keepsLink
  intro n hn
  rcases List.mem_pair.mp hn with rfl | rfl <;> and_intros <;> decide +kernel

theorem witness_CompletionAndAnnouncement :
    ((holding parkedControl).slot 0).state ∈ [SlotState.claimed, .queued, .opened, .parked, .aborting] ∧
    ((holding parkedControl).slot 0).desc.stationId = some 0 ∧ ((holding parkedControl).slot 0).desc.stationId ≠ some 1 := by
  decide +kernel

theorem witness_CompletionAndAnnouncement_announce : State.reset.cfg.holdoff = 0 ∧
    ({ State.reset.cfg with holdoff := 1 } : HostConfig).holdoff ≠ 0 ∧
    State.reset.unannounced < State.reset.cfg.completionThreshold ∧
    completed.queue = State.reset.queue ++ [record0] ∧ ([record0] : List Record) ≠ [] ∧
    State.reset.queue = State.reset.queue ++ [] := by decide +kernel

def sendAnswered : State := { flying openStore .send 0 with pending := [.taken] }
def recordWaits : State := { completed with pending := [.pop] }

/-- A state with an OPEN slot whose SEND is answered meets the hypotheses of every invariant statement, and steps. -/
theorem witness_invariants :
    (sendAnswered.poolConserved ∧ sendAnswered.memoryCanonical) ∧ (sendAnswered.listsMatch ∧ sendAnswered.queueMatches) ∧
    (sendAnswered.sequenceRuns ∧ sendAnswered.unannouncedFits) ∧ (sendAnswered.statusesPresent ∧ sendAnswered.pendingFits) ∧
    sendAnswered.progressFits ∧ sendAnswered.chainsFit ∧ sendAnswered.stationsQuiet ∧ sendAnswered.linkDownQuiet ∧
    sendAnswered.lineFits ∧
    sendAnswered.pending = [.taken] ∧ isTaken .taken sendAnswered = true := by
  refine ⟨⟨?_, ?_⟩, ⟨?_, ?_⟩, ⟨?_, ?_⟩, ⟨?_, ?_⟩, ?_, ?_, ?_, ?_, ?_, ?_, ?_⟩ <;> decide +kernel

/-- A COMPLETE slot with its record in the queue meets them too. -/
theorem witness_invariants_record :
    (recordWaits.poolConserved ∧ recordWaits.memoryCanonical) ∧ (recordWaits.listsMatch ∧ recordWaits.queueMatches) ∧
    (recordWaits.sequenceRuns ∧ recordWaits.unannouncedFits) ∧ (recordWaits.statusesPresent ∧ recordWaits.pendingFits) ∧
    recordWaits.progressFits ∧ recordWaits.chainsFit ∧ recordWaits.stationsQuiet ∧ recordWaits.linkDownQuiet ∧
    recordWaits.lineFits ∧
    recordWaits.pending = [.pop] ∧ isTaken .pop recordWaits = true := by
  refine ⟨⟨?_, ?_⟩, ⟨?_, ?_⟩, ⟨?_, ?_⟩, ⟨?_, ?_⟩, ?_, ?_, ?_, ?_, ?_, ?_, ?_⟩ <;> decide +kernel

/-- A link that is down, for the second part of the statement. -/
theorem witness_StepKeepsTheIdlePartsQuiet : State.reset.link.isUp = false ∧ State.reset.linkDownQuiet ∧
    State.reset.listsMatch ∧ State.reset.stationsQuiet := by decide +kernel

theorem witness_StepKeepsTheEngagements : sendAnswered.engagement ∧ sendAnswered.listsMatch ∧
    sendAnswered.stationsQuiet ∧ sendAnswered.pollTimersFit ∧ polling.pollTimersFit := by
  refine ⟨⟨by decide +kernel, ?_⟩, by decide +kernel, by decide +kernel, by decide +kernel, by decide +kernel⟩
  intro i
  refine ⟨?_, ?_, ?_, ?_, ?_⟩ <;> revert i <;> decide +kernel

end Sys2Proof.Tests
end

/-! The slot commands that begin an exchange: CLAIM, SELECT, and a POST that queues its slot (R6, R8, R13 to R16). -/

namespace Sys2Proof.Machine

/-! ## Slot operands -/

/-- A slot command whose operand names a slot follows its own rule there (R5). -/
theorem State.withSlot_of_operand (s : State) {op : Byte} {i : SlotId} (h : op.toNat = i.val)
    (rule : SlotId → State) : s.withSlot op rule = rule i := by
  rw [State.withSlot, slotOperand_eq h]

/-! ## CLAIM -/

/-- The ascending search finds the slot that holds `p` when no lower one does. -/
theorem find?_slotOrder_eq_some {p : SlotId → Bool} {i : SlotId} (hi : p i = true)
    (hlow : ∀ j : SlotId, j < i → p j = false) : slotOrder.find? p = some i := by
  rw [slotOrder, List.find?_eq_some_iff_getElem]
  refine ⟨hi, i.val, by simp, by simp, fun k hk => ?_⟩
  have hp := hlow ⟨k, hk.trans i.isLt⟩ hk
  simpa using hp

/-- The search finds nothing when no slot holds `p`. -/
theorem find?_slotOrder_eq_none {p : SlotId → Bool} (h : ∀ j : SlotId, p j = false) :
    slotOrder.find? p = none := by
  simp [slotOrder, h]

/-- CLAIM with a FREE slot: the lowest-numbered one is taken. -/
theorem execClaim_of_lowest {s : State} {i : SlotId} (hi : (s.slot i).state = .free)
    (hlow : ∀ j : SlotId, j < i → (s.slot j).state ≠ .free) :
    execClaim s =
      .next ((s.modSlot i fun x => { x with state := .claimed, desc := Descriptor.claimed }).answerSlot i) := by
  have hfind : (slotOrder.find? fun j => decide ((s.slot j).state = .free)) = some i :=
    find?_slotOrder_eq_some (by simp [hi]) fun j hj => by simp [hlow j hj]
  rw [execClaim, hfind]

/-- CLAIM with no FREE slot is refused. -/
theorem execClaim_of_noneFree {s : State} (h : ∀ i : SlotId, (s.slot i).state ≠ .free) :
    execClaim s = .next (s.answer .noSlot) := by
  have hfind : (slotOrder.find? fun j => decide ((s.slot j).state = .free)) = none :=
    find?_slotOrder_eq_none fun j => by simp [h j]
  rw [execClaim, hfind]

/-! ## POST -/

/-- What POST reserves is what the statements say that it takes: a FETCH's length in blocks, rounded up. -/
theorem Slot.reservation_eq_blocksTaken (x : Slot) : x.reservation = x.blocksTaken := by
  cases hk : x.desc.kind <;>
    simp [Slot.reservation, Slot.blocksTaken, Slot.len, blocksFor, roundUpDiv, Config.blockBytes, hk]

/-- The checks of R14 leave no FETCH through that the free list is too short for. -/
theorem Slot.blocksTaken_le_of_passesPost {x : Slot} {free : Nat} (h : x.passesPost free) : x.blocksTaken ≤ free := by
  obtain ⟨-, -, hkind⟩ := h
  cases hk : x.desc.kind <;> simp only [hk] at hkind
  case fetch =>
    obtain ⟨-, -, -, hroom⟩ := hkind
    simpa [Slot.blocksTaken, hk] using hroom
  all_goals simp [Slot.blocksTaken, hk]

/-- Joining a dispatch list as one record update: the tail of the list of the class, the other list as it was. -/
theorem State.joinList_eq (s : State) (i : SlotId) (c : Cls) : s.joinList i c = { s with
    urgent := if c = .urgent then s.urgent ++ [i] else s.urgent
    normal := if c = .normal then s.normal ++ [i] else s.normal } := by
  cases c <;> simp [State.joinList]

/-- The enqueuing of a slot whose reservation the free list can meet, as one record update (R16, R34). -/
theorem State.enqueueSlot_eq {s : State} {i : SlotId} (h : (s.slot i).reservation ≤ s.freeList.length) :
    s.enqueueSlot i = { s with
      slots := s.slots.set i.val { (s.slot i).enqueue with
        chain := (s.slot i).chain ++ s.freeList.take (s.slot i).reservation }
      urgent := if (s.slot i).desc.cls = .urgent then s.urgent ++ [i] else s.urgent
      normal := if (s.slot i).desc.cls = .normal then s.normal ++ [i] else s.normal
      freeList := s.freeList.drop (s.slot i).reservation
      mem := (s.freeList.take (s.slot i).reservation).foldl Memory.clearBlock s.mem } := by
  rw [State.enqueueSlot, State.joinList_eq, State.takeBlocks_eq]
  · simp [State.modSlot, State.setSlot, State.slot, Slot.enqueue, Slot.startProgress]
  · exact h

/-- POST of a CLAIMED slot that the checks of R14 let through goes by the state of its station. -/
theorem execPost_of_passesPost {s : State} {op : Byte} {i : SlotId} (hop : op.toNat = i.val)
    (hst : (s.slot i).state = .claimed) (hpass : (s.slot i).passesPost s.freeList.length) :
    execPost op s = .next (s.postToStation i) := by
  rw [execPost, s.withSlot_of_operand hop, if_pos hst, postRefusal_of_passesPost hpass]

/-- At a PROBING, ONLINE or WITHDRAWING station the slot is queued, and the scheduler looks at the line (R16, R81). -/
theorem State.postToStation_queues {s : State} {i : SlotId} {q : StationState}
    (hq : s.stationStateOf (s.slot i) = some q) (hin : q ∈ [StationState.probing, .online, .withdrawing]) :
    s.postToStation i = ((s.enqueueSlot i).answer .done).dispatch := by
  simp only [List.mem_cons, List.not_mem_nil, or_false] at hin
  rcases hin with rfl | rfl | rfl <;> simp only [State.postToStation, hq]

/-! ## The statements -/

/-- Settles O10: the search of CLAIM by its two outcomes, and SELECT at its operand. -/
theorem claimAndSelect : Obligations.ClaimAndSelect := by
  intro s
  refine ⟨fun i hi hlow => ?_, fun hnone => ?_, fun op i hop => ?_⟩
  · exact execClaim_of_lowest hi hlow
  · exact execClaim_of_noneFree hnone
  · show execSelect op s = _
    rw [execSelect, s.withSlot_of_operand hop]
    rfl

/-- Settles O13: the checks of R14 pass, the station takes the slot, and the free list meets its reservation. -/
theorem postQueuesTheSlot : Obligations.PostQueuesTheSlot := by
  intro s op i q hop hst hpass hq hin x n
  have hn : (s.slot i).reservation = n := Slot.reservation_eq_blocksTaken _
  have hroom : (s.slot i).reservation ≤ s.freeList.length := hn ▸ Slot.blocksTaken_le_of_passesPost hpass
  calc exec (.post op) s = .next (s.postToStation i) := execPost_of_passesPost hop hst hpass
    _ = .next (((s.enqueueSlot i).answer .done).dispatch) := by rw [State.postToStation_queues hq hin]
    _ = _ := by
      rw [State.enqueueSlot_eq hroom, hn]
      rfl

end Sys2Proof.Machine

/-! Filling a STORE through the data window: a write that is ignored, dropped or stored, and the bytes of the pool after it
(R29 to R32). -/

namespace Sys2Proof.Machine

/-! ## Blocks of the free list and of the chains are distinct (R26) -/

/-- A conserved pool lists no block twice. -/
theorem State.poolConserved_nodup {s : State} (h : s.poolConserved) : (s.freeList ++ s.chainBlocks).Nodup :=
  h.nodup_iff.mpr (List.nodup_finRange 128)

/-- In a conserved pool a slot's chain stays free of repetition when blocks of the free list join it. -/
theorem State.nodup_chain_append_take {s : State} (h : s.poolConserved) (i : SlotId) (n : Nat) :
    ((s.slot i).chain ++ s.freeList.take n).Nodup := by
  obtain ⟨hfree, hchains, hdisj⟩ := List.nodup_append'.mp (s.poolConserved_nodup h)
  have hi : i ∈ slotOrder := List.mem_finRange i
  obtain ⟨hchain, -⟩ := List.nodup_flatMap.mp hchains
  refine List.nodup_append'.mpr ⟨hchain i hi, hfree.sublist (List.take_sublist n _), ?_⟩
  intro b hb hb'
  exact hdisj (List.mem_of_mem_take hb') (List.mem_flatMap.mpr ⟨i, hi, hb⟩)

/-! ## Clearing several blocks -/

theorem Memory.wf_foldl_clearBlock {m : Memory} (h : m.wf) (bs : List BlockId) :
    (bs.foldl Memory.clearBlock m).wf := by
  induction bs generalizing m with
  | nil => exact h
  | cons b bs ih => exact ih (Memory.wf_clearBlock h b)

/-- An address of a cleared block reads 0. -/
theorem Memory.read_foldl_clearBlock_of_mem (m : Memory) {bs : List BlockId} {b : BlockId} (hb : b ∈ bs) {a : Nat}
    (ha : a / Config.blockBytes = b.val) : (bs.foldl Memory.clearBlock m).read a = Memory.unlisted := by
  induction bs using List.reverseRecOn with
  | nil => simp at hb
  | append_singleton bs d ih =>
    simp only [List.foldl_append, List.foldl_cons, List.foldl_nil, Memory.read_clearBlock]
    split
    · rfl
    next had =>
      have hbd : b ≠ d := fun e => had (e ▸ ha)
      exact ih (by simpa [hbd] using hb)

/-- An address outside the cleared blocks reads as before. -/
theorem Memory.read_foldl_clearBlock_of_not_mem {bs : List BlockId} {a : Nat} (m : Memory)
    (h : ∀ b ∈ bs, a / Config.blockBytes ≠ b.val) : (bs.foldl Memory.clearBlock m).read a = m.read a := by
  induction bs generalizing m with
  | nil => rfl
  | cons b bs ih =>
    obtain ⟨hb, hbs⟩ := List.forall_mem_cons.mp h
    rw [List.foldl_cons, ih _ hbs, Memory.read_clearBlock, if_neg hb]

/-! ## A chain with cleared blocks at its tail -/

/-- Every address of a block has the block's number as its quotient. -/
@[simp] theorem blockAddress_div (b : BlockId) (off : Nat) : blockAddress b off / Config.blockBytes = b.val := by
  simp only [blockAddress, Config.blockBytes]
  omega

/-- An offset that the chain has a block for. -/
theorem chainAddress_eq_some {chain : List BlockId} {off : Nat} (h : off / Config.blockBytes < chain.length) :
    chainAddress chain off = some (blockAddress chain[off / Config.blockBytes] off) := by
  simp [chainAddress, h]

/-- Below the old end of a chain, taking cleared blocks onto its tail changes no byte. -/
theorem chainByte_append_cleared_old (m : Memory) {chain taken : List BlockId} (hn : (chain ++ taken).Nodup) {p : Nat}
    (hp : p / Config.blockBytes < chain.length) :
    chainByte (taken.foldl Memory.clearBlock m) (chain ++ taken) p = chainByte m chain p := by
  have hsame : chainAddress (chain ++ taken) p = chainAddress chain p := by
    simp only [chainAddress, List.getElem?_append_left hp]
  rw [chainByte, chainByte, hsame, chainAddress_eq_some hp]
  refine Memory.read_foldl_clearBlock_of_not_mem m fun b hb => ?_
  rw [blockAddress_div]
  obtain ⟨-, -, hdisj⟩ := List.nodup_append'.mp hn
  exact fun e => hdisj (List.getElem_mem hp) (Fin.ext e ▸ hb)

/-- From the old end of a chain on, cleared blocks taken onto its tail read 0 (R27). -/
theorem chainByte_append_cleared_new (m : Memory) (chain taken : List BlockId) {p : Nat}
    (hp : chain.length ≤ p / Config.blockBytes) :
    chainByte (taken.foldl Memory.clearBlock m) (chain ++ taken) p = Memory.unlisted := by
  simp only [chainByte, chainAddress, List.getElem?_append_right hp]
  cases hb : taken[p / Config.blockBytes - chain.length]? with
  | none => rfl
  | some b => exact Memory.read_foldl_clearBlock_of_mem m (List.mem_of_getElem? hb) (blockAddress_div b p)

/-! ## Several bytes stored on a chain -/

/-- An offset outside the stored ones reads as before. -/
theorem chainByte_chainPutAll_of_outside {m : Memory} (h : m.wf) {chain : List BlockId} (hn : chain.Nodup)
    {off : Nat} {vs : List Byte} (hfit : off + vs.length ≤ Config.blockBytes * chain.length) {p : Nat}
    (hp : p < off ∨ off + vs.length ≤ p) : chainByte (chainPutAll m chain off vs) chain p = chainByte m chain p := by
  induction vs generalizing m off with
  | nil => rfl
  | cons v vs ih =>
    rw [List.length_cons] at hfit hp
    have hblock : off / Config.blockBytes < chain.length := Nat.div_lt_of_lt_mul (by omega)
    rw [chainPutAll, ih (wf_chainPut h chain off v) (by omega) (by omega),
      chainByte_chainPut h hn hblock, if_neg (by omega)]

/-- Each stored byte reads back at its offset (R29). -/
theorem chainByte_chainPutAll_of_stored {m : Memory} (h : m.wf) {chain : List BlockId} (hn : chain.Nodup)
    {off : Nat} {vs : List Byte} (hfit : off + vs.length ≤ Config.blockBytes * chain.length) {k : Nat}
    (hk : k < vs.length) : chainByte (chainPutAll m chain off vs) chain (off + k) = vs[k] := by
  induction vs generalizing m off k with
  | nil => simp at hk
  | cons v vs ih =>
    rw [List.length_cons] at hfit hk
    have hblock : off / Config.blockBytes < chain.length := Nat.div_lt_of_lt_mul (by omega)
    have hwf := wf_chainPut h chain off v
    have hrest : off + 1 + vs.length ≤ Config.blockBytes * chain.length := by omega
    rw [chainPutAll]
    cases k with
    | zero =>
      show chainByte _ chain off = v
      rw [chainByte_chainPutAll_of_outside hwf hn hrest (.inl (Nat.lt_add_one off)),
        chainByte_chainPut h hn hblock, if_pos rfl]
    | succ k =>
      have hlater := ih hwf hrest (Nat.lt_of_succ_lt_succ hk)
      rwa [Nat.add_assoc, Nat.add_comm 1 k] at hlater

/-- An address that no stored byte has reads as before. -/
theorem read_chainPutAll_of_ne {m : Memory} (h : m.wf) {chain : List BlockId} {off : Nat} {vs : List Byte} {a : Nat}
    (ha : ∀ k < vs.length, chainAddress chain (off + k) ≠ some a) :
    (chainPutAll m chain off vs).read a = m.read a := by
  induction vs generalizing m off with
  | nil => rfl
  | cons v vs ih =>
    have hfirst : chainAddress chain off ≠ some a := ha 0 (by simp)
    have hput : (chainPut m chain off v).read a = m.read a := by
      cases ho : chainAddress chain off with
      | none => simp [chainPut, ho]
      | some b =>
        have hab : a ≠ b := fun e => hfirst (ho.trans (e ▸ rfl))
        simp [chainPut, ho, Memory.read_write h.1, hab]
    rw [chainPutAll, ih (wf_chainPut h chain off v), hput]
    intro k hk
    have hnext := ha (k + 1) (by simpa using hk)
    rwa [show off + 1 + k = off + (k + 1) by omega]

/-! ## What a filling write stores -/

/-- The bytes of a filling write, those below the length (R31). -/
def Slot.fillBytes (x : Slot) (data : Word) : List Byte := (wordBytes data).take (x.len - x.fillCursor)

/-- The blocks that a filling write takes: one at a block boundary (R31). -/
def Slot.fillBlocks (x : Slot) : Nat := if x.fillCursor % Config.blockBytes = 0 then 1 else 0

theorem Slot.fillBytes_length (x : Slot) (data : Word) :
    (x.fillBytes data).length = min (x.len - x.fillCursor) 4 := by
  simp [Slot.fillBytes, wordBytes]

/-- A byte offset is stored exactly when it stands in the word and below the length. -/
theorem Slot.lt_fillBytes_length {x : Slot} {data : Word} {k : Nat} :
    k < (x.fillBytes data).length ↔ k < 4 ∧ x.fillCursor + k < x.len := by
  rw [Slot.fillBytes_length]
  omega

theorem Slot.fillBytes_getElem {x : Slot} {data : Word} {k : Nat} (hk : k < (x.fillBytes data).length) :
    (x.fillBytes data)[k] = data.extractLsb' (8 * k) 8 := by
  obtain ⟨hk4, -⟩ := Slot.lt_fillBytes_length.mp hk
  simp only [Slot.fillBytes, List.getElem_take]
  match k, hk4 with
  | 0, _ | 1, _ | 2, _ | 3, _ => rfl

/-- The chain takes its blocks from the head of the free list. -/
theorem Slot.take_fillBlocks (x : Slot) (free : List BlockId) :
    free.take x.fillBlocks = if x.fillCursor % 32 = 0 then free.take 1 else [] :=
  apply_ite (fun n => free.take n) _ 1 0

/-- The free list keeps what the chain does not take. -/
theorem Slot.drop_fillBlocks (x : Slot) (free : List BlockId) :
    free.drop x.fillBlocks = if x.fillCursor % 32 = 0 then free.drop 1 else free :=
  apply_ite (fun n => free.drop n) _ 1 0

/-- A slot's chain with the blocks that a filling write takes at its tail. -/
def State.fillChain (s : State) (i : SlotId) : List BlockId :=
  (s.slot i).chain ++ s.freeList.take (s.slot i).fillBlocks

/-- The pool after a filling write: the blocks taken are cleared, then the bytes are placed at the fill cursor. -/
def State.fillMem (s : State) (i : SlotId) (data : Word) : Memory :=
  chainPutAll ((s.freeList.take (s.slot i).fillBlocks).foldl Memory.clearBlock s.mem) (s.fillChain i)
    (s.slot i).fillCursor ((s.slot i).fillBytes data)

/-- A filling write that stores, as one record update (R31). -/
theorem State.storeFill_eq {s : State} {i : SlotId} (h : (s.slot i).fillBlocks ≤ s.freeList.length) (data : Word) :
    s.storeFill i data = { s with
      slots := s.slots.set i.val { s.slot i with
        chain := s.fillChain i, fillCursor := (s.slot i).fillCursor + 4 }
      freeList := s.freeList.drop (s.slot i).fillBlocks
      mem := s.fillMem i data } := by
  have htake : (if (s.slot i).fillCursor % Config.blockBytes = 0 then s.takeBlock i else s) =
      s.takeBlocks i (s.slot i).fillBlocks := by
    unfold Slot.fillBlocks
    split <;> rfl
  simp only [State.storeFill, htake, State.takeBlocks_eq _ s i h]
  simp [State.modSlot, State.setSlot, State.slot, State.fillChain, State.fillMem, Slot.fillBytes, Slot.len]

/-! ## The memory after a filling write -/

section
variable {s : State} {i : SlotId} {data : Word}

theorem State.nodup_fillChain (h : s.poolConserved) (i : SlotId) : (s.fillChain i).Nodup :=
  s.nodup_chain_append_take h i _

/-- The chain of a CLAIMED slot ends with the block that holds the byte below its fill cursor (R33). -/
theorem State.chain_length_of_claimed (h : s.chainsFit) (hst : (s.slot i).state = .claimed) :
    (s.slot i).chain.length = ((s.slot i).fillCursor + 31) / 32 ∧ (s.slot i).fillCursor % 4 = 0 := by
  obtain ⟨-, hclaimed, -, -⟩ := h i
  obtain ⟨hlen, hmod, -, -⟩ := hclaimed hst
  exact ⟨hlen, hmod⟩

/-- The bytes of a filling write lie on the chain that it leaves. -/
theorem State.fillBytes_fit (h : s.chainsFit) (hst : (s.slot i).state = .claimed)
    (hroom : (s.slot i).fillBlocks ≤ s.freeList.length) :
    (s.slot i).fillCursor + ((s.slot i).fillBytes data).length ≤ Config.blockBytes * (s.fillChain i).length := by
  obtain ⟨hlen, hmod⟩ := State.chain_length_of_claimed h hst
  have hbytes : ((s.slot i).fillBytes data).length ≤ 4 := by
    rw [Slot.fillBytes_length]
    exact min_le_right _ _
  rw [State.fillChain, List.length_append, List.length_take_of_le hroom, hlen]
  by_cases hc : (s.slot i).fillCursor % 32 = 0
  · simp only [Slot.fillBlocks, Config.blockBytes, hc, if_true]
    omega
  · simp only [Slot.fillBlocks, Config.blockBytes, hc, if_false]
    omega

/-- Each byte of the word below the length stands at its offset from the fill cursor. -/
theorem State.chainByte_fillMem_of_stored (hmem : s.memoryCanonical) (hpool : s.poolConserved) (hfits : s.chainsFit)
    (hst : (s.slot i).state = .claimed) (hroom : (s.slot i).fillBlocks ≤ s.freeList.length) {k : Nat} (hk : k < 4)
    (hlen : (s.slot i).fillCursor + k < (s.slot i).len) :
    chainByte (s.fillMem i data) (s.fillChain i) ((s.slot i).fillCursor + k) = data.extractLsb' (8 * k) 8 := by
  have hstored := Slot.lt_fillBytes_length (data := data).mpr ⟨hk, hlen⟩
  rw [State.fillMem, chainByte_chainPutAll_of_stored (Memory.wf_foldl_clearBlock hmem _)
    (s.nodup_fillChain hpool i) (State.fillBytes_fit hfits hst hroom) hstored, Slot.fillBytes_getElem]

/-- The bytes below the fill cursor stand as before. -/
theorem State.chainByte_fillMem_of_below (hmem : s.memoryCanonical) (hpool : s.poolConserved) (hfits : s.chainsFit)
    (hst : (s.slot i).state = .claimed) (hroom : (s.slot i).fillBlocks ≤ s.freeList.length) {p : Nat}
    (hp : p < (s.slot i).fillCursor) :
    chainByte (s.fillMem i data) (s.fillChain i) p = chainByte s.mem (s.slot i).chain p := by
  have hn := s.nodup_fillChain hpool i
  have hold : p / Config.blockBytes < (s.slot i).chain.length := by
    rw [(State.chain_length_of_claimed hfits hst).1, Config.blockBytes]
    omega
  rw [State.fillMem, chainByte_chainPutAll_of_outside (Memory.wf_foldl_clearBlock hmem _) hn
    (State.fillBytes_fit hfits hst hroom) (.inl hp)]
  exact chainByte_append_cleared_old s.mem hn hold

/-- Beside the bytes stored, a block taken at a block boundary reads 0. -/
theorem State.chainByte_fillMem_of_rest (hmem : s.memoryCanonical) (hpool : s.poolConserved) (hfits : s.chainsFit)
    (hst : (s.slot i).state = .claimed) (hroom : (s.slot i).fillBlocks ≤ s.freeList.length)
    (hc : (s.slot i).fillCursor % 32 = 0) {k : Nat} (hk : 4 ≤ k ∨ (s.slot i).len ≤ (s.slot i).fillCursor + k) :
    chainByte (s.fillMem i data) (s.fillChain i) ((s.slot i).fillCursor + k) = 0 := by
  have hpast : (s.slot i).fillCursor + ((s.slot i).fillBytes data).length ≤ (s.slot i).fillCursor + k := by
    rw [Slot.fillBytes_length]
    omega
  have hnew : (s.slot i).chain.length ≤ ((s.slot i).fillCursor + k) / Config.blockBytes := by
    rw [(State.chain_length_of_claimed hfits hst).1, Config.blockBytes]
    omega
  rw [State.fillMem, chainByte_chainPutAll_of_outside (Memory.wf_foldl_clearBlock hmem _)
    (s.nodup_fillChain hpool i) (State.fillBytes_fit hfits hst hroom) (.inr hpast)]
  exact chainByte_append_cleared_new s.mem _ _ hnew

/-- An address outside the blocks taken that no stored byte has reads as before. -/
theorem State.read_fillMem_of_ne (hmem : s.memoryCanonical) {a : Nat}
    (hblock : ∀ b ∈ s.freeList.take (s.slot i).fillBlocks, a / 32 ≠ b.val)
    (haddr : ∀ k < 4, (s.slot i).fillCursor + k < (s.slot i).len →
      chainAddress (s.fillChain i) ((s.slot i).fillCursor + k) ≠ some a) :
    (s.fillMem i data).read a = s.mem.read a := by
  rw [State.fillMem, read_chainPutAll_of_ne (Memory.wf_foldl_clearBlock hmem _) (fun k hk => ?_)]
  · exact Memory.read_foldl_clearBlock_of_not_mem s.mem hblock
  · obtain ⟨hk4, hlen⟩ := Slot.lt_fillBytes_length.mp hk
    exact haddr k hk4 hlen

end

/-! ## The three ends of a data-window write -/

/-- The cases in which a filling write is dropped (R32). -/
theorem fillDropped_iff (x : Slot) (free : List BlockId) : fillDropped x free = true ↔
    x.len ≤ x.fillCursor ∨ 512 ≤ x.fillCursor ∨ (x.fillCursor % 32 = 0 ∧ free = []) := by
  simp only [fillDropped, Bool.or_eq_true, Bool.and_eq_true, decide_eq_true_eq, List.isEmpty_iff, or_assoc]
  rfl

/-- A filling write below the length and 512 that finds the block it needs is not dropped. -/
theorem fillDropped_eq_false {x : Slot} {free : List BlockId} (hlen : x.fillCursor < x.len)
    (hmax : x.fillCursor < 512) (hblock : x.fillCursor % 32 = 0 → free ≠ []) : fillDropped x free = false := by
  rw [Bool.eq_false_iff, Ne, fillDropped_iff]
  rintro (h | h | ⟨hc, hfree⟩)
  · exact absurd hlen (not_lt.mpr h)
  · exact absurd hmax (not_lt.mpr h)
  · exact hblock hc hfree

/-- With a block free wherever one is needed, the free list holds the blocks that a filling write takes. -/
theorem Slot.fillBlocks_le {x : Slot} {free : List BlockId} (hblock : x.fillCursor % 32 = 0 → free ≠ []) :
    x.fillBlocks ≤ free.length := by
  unfold Slot.fillBlocks
  split
  next hc => exact List.length_pos_iff.mpr (hblock hc)
  next => exact Nat.zero_le _

/-- Outside a CLAIMED STORE the write is ignored (R30). -/
theorem execDataWindowWrite_ignored {s : State} (data : Word)
    (h : s.selectedSlot.state ≠ .claimed ∨ s.selectedSlot.desc.kind ≠ .store) :
    execDataWindowWrite data s = .next (s.flagStatus .wrongState) :=
  if_neg (not_and_or.mpr h)

/-- A filling write that is dropped sets the fill error flag and shows FILL_ERROR (R32). -/
theorem execDataWindowWrite_dropped {s : State} (data : Word) (hst : s.selectedSlot.state = .claimed)
    (hk : s.selectedSlot.desc.kind = .store) (h : fillDropped s.selectedSlot s.freeList = true) :
    execDataWindowWrite data s =
      .next ((s.modSlot s.selected fun y => { y with fillError := true }).flagStatus .fillError) :=
  (if_pos ⟨hst, hk⟩).trans (if_pos h)

/-- A filling write that is not dropped is stored (R31). -/
theorem execDataWindowWrite_stored {s : State} (data : Word) (hst : s.selectedSlot.state = .claimed)
    (hk : s.selectedSlot.desc.kind = .store) (h : fillDropped s.selectedSlot s.freeList = false) :
    execDataWindowWrite data s = .next (s.storeFill s.selected data) :=
  (if_pos ⟨hst, hk⟩).trans (if_neg (Bool.eq_false_iff.mp h))

/-! ## The statement -/

/-- Settles O27: the three ends of the write; where it is stored, the pool reads as the lemmas about `State.fillMem` say. -/
theorem dataWindowWrite : Obligations.DataWindowWrite := by
  intro s data x c
  refine ⟨fun h => execDataWindowWrite_ignored data h,
    fun hst hk hdrop => execDataWindowWrite_dropped data hst hk ((fillDropped_iff _ _).mpr hdrop),
    fun hmem hpool hfits hst hk hlen hmax hblock => ?_⟩
  have hroom : x.fillBlocks ≤ s.freeList.length := Slot.fillBlocks_le hblock
  have hexec : exec (.dataWindowWrite data) s = .next (s.storeFill s.selected data) :=
    execDataWindowWrite_stored data hst hk (fillDropped_eq_false hlen hmax hblock)
  refine ⟨_, hexec.trans (congrArg _ (State.storeFill_eq hroom data)), ?_⟩
  rw [← x.take_fillBlocks, ← x.drop_fillBlocks]
  exact ⟨rfl, fun k hk hkl => State.chainByte_fillMem_of_stored hmem hpool hfits hst hroom hk hkl,
    fun p hp => State.chainByte_fillMem_of_below hmem hpool hfits hst hroom hp,
    fun hc k _ hrest => State.chainByte_fillMem_of_rest hmem hpool hfits hst hroom hc hrest,
    fun a hnew haddr => State.read_fillMem_of_ne hmem hnew haddr⟩

end Sys2Proof.Machine

/-! The host's side of the completion queue: POP of the head record, and POP of an empty queue (R22, R161). -/

namespace Sys2Proof.Machine

/-- Taking the head record whose slot is COMPLETE, as one record update (R161). -/
theorem State.popHead_eq_of_complete {s : State} {head : Record} (h : (s.slot head.slot).state = .complete)
    (rest : List Record) : s.popHead head rest = { s with
      queue := rest
      slots := s.slots.set head.slot.val { s.slot head.slot with state := .settled }
      unannounced := min s.unannounced rest.length
      holdoffTimer := if rest = [] then none else s.holdoffTimer } := by
  have hslot : s.slots[head.slot.val].state = .complete := h
  simp only [State.popHead, State.modSlot, State.setSlot, State.slot, hslot, if_true, List.isEmpty_iff]

/-- POP of a queue that holds a record takes its head and shows the head's slot number. -/
theorem execPop_of_cons {s : State} {head : Record} {rest : List Record} (h : s.queue = head :: rest) :
    execPop s = .next ((s.popHead head rest).answerSlot head.slot) := by
  rw [execPop, h]

/-- POP of an empty queue is refused. -/
theorem execPop_of_nil {s : State} (h : s.queue = []) : execPop s = .next (s.answer .empty) := by
  rw [execPop, h]

/-- Settles O17: the two cases of the queue. -/
theorem popTakesTheHead : Obligations.PopTakesTheHead := by
  intro s
  refine ⟨fun head rest hq hst => ?_, fun hq => execPop_of_nil hq⟩
  calc exec .pop s = .next ((s.popHead head rest).answerSlot head.slot) := execPop_of_cons hq
    _ = _ := by
      rw [State.popHead_eq_of_complete hst]
      rfl

end Sys2Proof.Machine

/-! CAUSE, MASK and the interrupt line: what a CAUSE write clears, the bits that a read of CAUSE shows, and when INT_N is
low (R168, R171, R192). -/

namespace Sys2Proof.Machine

/-! ## The change flags and the STATION cause -/

/-- The STATION cause is set while one or more change flags is set (R168). -/
theorem State.stationCause_iff (s : State) :
    s.stationCause = true ↔ ∃ st : StationId, (s.station st).changed = true := by
  simp only [State.stationCause, List.any_eq_true, Vector.mem_toList_iff, Vector.mem_iff_getElem]
  constructor
  · rintro ⟨_, ⟨k, hk, rfl⟩, hchanged⟩
    exact ⟨⟨k, hk⟩, hchanged⟩
  · rintro ⟨st, hchanged⟩
    exact ⟨_, ⟨st.val, st.isLt, rfl⟩, hchanged⟩

/-- A CAUSE write leaves a change flag set where neither bit 1 nor the flag's own bit is written as 1 (R192). -/
theorem State.station_clearCauses (s : State) (w : Word) (st : StationId) :
    (s.clearCauses w).station st = { s.station st with
      changed := (s.station st).changed && !w.getLsbD 1 && !w.getLsbD (8 + st.val) } := by
  simp [State.clearCauses, State.clearChangeFlags, State.station, Bool.and_assoc]

/-- After a CAUSE write the STATION cause follows the flags that the write left set (R168, R192). -/
theorem State.stationCause_clearCauses_iff (s : State) (w : Word) :
    (s.clearCauses w).stationCause = true ↔ ∃ st : StationId,
      (s.station st).changed = true ∧ w.getLsbD 1 = false ∧ w.getLsbD (8 + st.val) = false := by
  simp only [State.stationCause_iff, State.station_clearCauses, Bool.and_eq_true, Bool.not_eq_true', and_assoc]

/-- INT_N is low exactly while a cause is both set and unmasked (R171). -/
theorem State.intN_eq_false_iff (s : State) :
    s.intN = false ↔ (s.completionCause = true ∧ s.mask.completion = true) ∨
      (s.stationCause = true ∧ s.mask.station = true) ∨ (s.linkCause = true ∧ s.mask.link = true) := by
  simp only [State.intN, State.causeShown, Bool.not_eq_false', Bool.or_eq_true, Bool.and_eq_true, or_assoc]

/-! ## The bits of a word that is read -/

/-- A bit placed in a word stands at its own place and nowhere else (R194). -/
theorem getLsbD_bitAt (lo : Nat) (b : Bool) {k : Nat} (hk : k < 32) :
    (bitAt lo b).getLsbD k = (decide (k = lo) && b) := by
  rw [bitAt, fieldAt, BitVec.getLsbD_ofNat]
  cases b
  · simp
  · simp [Nat.testBit_two_pow, hk, eq_comm]

/-- A bit of an `or` of words is set where one of the words has it set. -/
theorem getLsbD_foldl_or {α : Type} (f : α → Word) (l : List α) (w : Word) (k : Nat) :
    (l.foldl (fun v a => v ||| f a) w).getLsbD k = (w.getLsbD k || l.any fun a => (f a).getLsbD k) := by
  induction l generalizing w with
  | nil => simp
  | cons a l ih => rw [List.foldl_cons, ih, BitVec.getLsbD_or, List.any_cons, Bool.or_assoc]

/-- A bit of the change flags is set where it is the bit of a station whose flag is set. -/
theorem State.getLsbD_changeBits_iff (s : State) {k : Nat} (hk : k < 32) :
    s.changeBits.getLsbD k = true ↔ ∃ st : StationId, k = 8 + st.val ∧ (s.station st).changed = true := by
  simp only [State.changeBits, getLsbD_foldl_or, getLsbD_bitAt _ _ hk, BitVec.ofNat_eq_ofNat, BitVec.getLsbD_zero,
    Bool.false_or, List.any_eq_true, List.mem_finRange, true_and, Bool.and_eq_true, decide_eq_true_eq]

/-- The change flags leave the bits of the three causes free. -/
theorem State.getLsbD_changeBits_of_lt (s : State) {k : Nat} (hk : k < 8) : s.changeBits.getLsbD k = false := by
  rw [Bool.eq_false_iff, Ne, s.getLsbD_changeBits_iff (by omega)]
  rintro ⟨st, rfl, -⟩
  omega

/-- The change flag of a station stands in its own bit. -/
theorem State.getLsbD_changeBits_station (s : State) (st : StationId) :
    s.changeBits.getLsbD (8 + st.val) = (s.station st).changed := by
  rw [Bool.eq_iff_iff, s.getLsbD_changeBits_iff (by omega)]
  constructor
  · rintro ⟨u, hu, hchanged⟩
    rwa [show st = u from Fin.ext (Nat.add_left_cancel hu)]
  · exact fun hchanged => ⟨st, rfl, hchanged⟩

/-- Each bit of CAUSE is that of a cause in bits 0 to 2 or that of a change flag (R194). -/
theorem State.getLsbD_readCause (s : State) {k : Nat} (hk : k < 32) :
    s.readCause.getLsbD k = (decide (k = 0) && s.completionCause || decide (k = 1) && s.stationCause ||
      decide (k = 2) && s.linkCause || s.changeBits.getLsbD k) := by
  simp only [State.readCause, BitVec.getLsbD_or, getLsbD_bitAt _ _ hk]

/-- A read of CAUSE shows the three causes in bits 0 to 2 and the change flags from bit 8 (R192, R194). -/
theorem State.readCause_bits (s : State) :
    s.readCause.getLsbD 0 = s.completionCause ∧ s.readCause.getLsbD 1 = s.stationCause ∧
      s.readCause.getLsbD 2 = s.linkCause ∧
      ∀ st : StationId, s.readCause.getLsbD (8 + st.val) = (s.station st).changed := by
  have hlow : ∀ k < 8, s.readCause.getLsbD k = (decide (k = 0) && s.completionCause ||
      decide (k = 1) && s.stationCause || decide (k = 2) && s.linkCause) := fun k hk => by
    rw [s.getLsbD_readCause (by omega), s.getLsbD_changeBits_of_lt hk, Bool.or_false]
  refine ⟨by simpa using hlow 0 (by decide), by simpa using hlow 1 (by decide), by simpa using hlow 2 (by decide),
    fun st => ?_⟩
  rw [s.getLsbD_readCause (by omega), s.getLsbD_changeBits_station]
  simp [show 8 + st.val ≠ 1 by omega, show 8 + st.val ≠ 2 by omega]

/-- The word that CAUSE reads as does not depend on the mask (R192). -/
theorem State.readWord_cause_of_mask (s : State) (m : CauseMask) :
    ({ s with mask := m } : State).readWord 12 = s.readCause := rfl

/-! ## The statement -/

/-- Settles O29: the flags and the cause after a CAUSE write, the bits that are read, and the pin, each by its lemma. -/
theorem causeAndMaskWrites : Obligations.CauseAndMaskWrites := by
  intro s data
  refine ⟨⟨s.clearCauses data, rfl, rfl, s.station_clearCauses data, s.stationCause_clearCauses_iff data⟩, rfl,
    fun m => ?_, s.stationCause_iff, s.intN_eq_false_iff⟩
  rw [s.readWord_cause_of_mask m]
  exact s.readCause_bits

end Sys2Proof.Machine

/-! What a step can do to the tables (the slot table, the dispatch lists, the pool and the completion queue): every step is a
run of a few kinds of change, each with the guard it is made under. The invariants of the tables are then proved once for
each kind of change, and not once for each command. -/

namespace Sys2Proof.Machine

/-! ## Edits of one slot record -/

/-- An edit of a slot record that no dispatch list, chain or record of the queue takes part in, with the guard that its rule
makes it under. -/
inductive Slot.Edit (x : Slot) : Slot → Prop
  /-- Flags, timers, cursors and counts that the tables' invariants do not speak of. -/
  | aside (opened flying : Bool) (stop : Option StopKind) (attempts : Nat) (ready : Bool) (timer : Option Nat)
      (busyLeft busySeen : Nat) (fillError : Bool) (cursor : Nat) :
      Edit x { x with
        possiblyOpened := opened, inFlight := flying, stopRequest := stop, abortAttempts := attempts
        ready := ready, lifetimeTimer := timer, busyLeft := busyLeft, busySeen := busySeen
        fillError := fillError, readCursor := cursor }
  /-- CLAIM (R8). -/
  | claim (h : x.state = .free) : Edit x { x with state := .claimed, desc := Descriptor.claimed }
  /-- A descriptor or length write (R10, R11). -/
  | describe (d : Descriptor) (h : x.state = .claimed) (hl : d.length = x.desc.length ∨ x.fillCursor = 0) :
      Edit x { x with desc := d }
  /-- ACCEPT (R104). -/
  | accept (h : x.state = .queued) :
      Edit x { x with
        state := .opened, phase := if x.desc.kind = .control then .finishing else .data
        nextIndex := 0, bytesMoved := 0 }
  /-- TAKEN (R108). -/
  | taken (h : x.state = .opened) (hp : x.phase = .data) (hk : x.desc.kind = .store) : Edit x x.afterTaken
  /-- GIVE (R111). -/
  | give (p : Nat) (h : x.state = .opened) (hp : x.phase = .data) (hk : x.desc.kind = .fetch)
      (hs : p ≤ Config.segmentBytes) (hl : p ≤ x.len - x.bytesMoved) : Edit x (x.afterGive p)
  /-- PARK (R116). -/
  | park (h : x.state = .opened) : Edit x { x with state := .parked, ready := false }
  /-- Resumption (R91). -/
  | resume (h : x.state = .parked) : Edit x { x with state := .opened, ready := false }
  /-- A retry (R136). -/
  | retry (h : 0 < x.retriesLeft) (hs : x.state.canStop = true) : Edit x x.retry
  /-- Entry to ABORTING (R149). -/
  | abort (o : Ending) (ho : o.isPending = true) (h : x.state.canStop = true) : Edit x (x.toAborting o)

/-! ## Changes of the tables -/

/-- Two states with the same tables; the unannounced count may have been lowered. -/
structure SameTables (s t : State) : Prop where
  slots : t.slots = s.slots
  urgent : t.urgent = s.urgent
  normal : t.normal = s.normal
  freeList : t.freeList = s.freeList
  mem : t.mem = s.mem
  queue : t.queue = s.queue
  seqCounter : t.seqCounter = s.seqCounter
  unannounced : t.unannounced ≤ s.unannounced

/-- A result that a record may show: its station status is present as R159 says, or its outcome is the slot's pending one and
no status is given. -/
def Result.suits (r : Result) (x : Slot) : Prop :=
  (r.stationStatus.isSome =
    (decide (r.outcome = .ok) || decide (r.outcome = .stationError) || decide (r.outcome = .refused))) ∨
  (x.pendingOutcome = some r.outcome ∧ r.stationStatus = none)

/-- One change of the tables. `E` stands for a premise that some completions need: only under it is it known that the slot
that completes has been posted. -/
inductive Change (E : Prop) : State → State → Prop
  /-- Nothing changes in the tables. -/
  | aside {s t : State} (h : SameTables s t) : Change E s t
  /-- Bytes are stored in the pool. -/
  | store (s : State) (chain : List BlockId) (off : Nat) (bytes : List Byte) :
      Change E s { s with mem := chainPutAll s.mem chain off bytes }
  /-- A slot record is edited. -/
  | edit (s : State) (i : SlotId) {y : Slot} (h : (s.slot i).Edit y) : Change E s (s.setSlot i y)
  /-- The completion step (R19). -/
  | complete (s : State) (i : SlotId) (r : Result) (hr : r.suits (s.slot i))
      (h : E → (s.slot i).state ≠ .claimed) : Change E s (s.complete i r)
  /-- A POST that completes its slot at once (R15). -/
  | completeAtOnce (s : State) (i : SlotId) (o : Ending) (ho : o = .noStation ∨ o = .stationFault)
      (h : (s.slot i).state = .claimed) :
      Change E s ((s.modSlot i fun x => x.startProgress).complete i { outcome := o })
  /-- A POST that queues its slot (R16). -/
  | enqueue (s : State) (i : SlotId) (h : (s.slot i).state = .claimed)
      (hp : postRefusal (s.slot i) s.freeList.length = none) : Change E s (s.enqueueSlot i)
  /-- DROP and RELEASE (R12, R23). -/
  | free (s : State) (i : SlotId) (h : (s.slot i).state = .claimed ∨ (s.slot i).state = .settled) :
      Change E s (s.freeSlot i)
  /-- A filling write that is stored (R31). -/
  | fill (s : State) (i : SlotId) (data : Word) (h : (s.slot i).state = .claimed)
      (hk : (s.slot i).desc.kind = .store) (hd : fillDropped (s.slot i) s.freeList = false) :
      Change E s (s.storeFill i data)
  /-- POP of the head record (R161). -/
  | pop (s : State) (head : Record) (rest : List Record) (h : s.queue = head :: rest) :
      Change E s (s.popHead head rest)
  /-- Either reset (R186, R196). -/
  | reset {s t : State} (h : SameTables State.reset t) : Change E s t

/-- A run of changes of the tables. -/
abbrev Changes (E : Prop) : State → State → Prop := Relation.ReflTransGen (Change E)

/-- A property that every change keeps is kept by a run of them. -/
theorem Changes.preserves {E : Prop} {I : State → Prop} (step : ∀ s t, Change E s t → I s → I t) {s t : State}
    (h : Changes E s t) (hs : I s) : I t := by
  induction h with
  | refl => exact hs
  | tail _ hc ih => exact step _ _ hc ih

/-! ## States with the same tables -/

theorem SameTables.refl (s : State) : SameTables s s :=
  ⟨rfl, rfl, rfl, rfl, rfl, rfl, rfl, le_rfl⟩

theorem SameTables.trans {s t u : State} (h : SameTables s t) (k : SameTables t u) : SameTables s u :=
  ⟨k.slots.trans h.slots, k.urgent.trans h.urgent, k.normal.trans h.normal, k.freeList.trans h.freeList,
    k.mem.trans h.mem, k.queue.trans h.queue, k.seqCounter.trans h.seqCounter, k.unannounced.trans h.unannounced⟩

theorem SameTables.slot {s t : State} (h : SameTables s t) (i : SlotId) : t.slot i = s.slot i := by
  simp only [State.slot, h.slots]

theorem SameTables.changes {E : Prop} {s t : State} (h : SameTables s t) : Changes E s t := .single (.aside h)

theorem sameTables_modStation (s : State) (st : StationId) (f : Station → Station) :
    SameTables s (s.modStation st f) := ⟨rfl, rfl, rfl, rfl, rfl, rfl, rfl, le_rfl⟩

theorem sameTables_leaveParked (s : State) (st : StationId) (i : SlotId) : SameTables s (s.leaveParked st i) := by
  rw [State.leaveParked_frame]
  exact ⟨rfl, rfl, rfl, rfl, rfl, rfl, rfl, le_rfl⟩

theorem sameTables_startPollTimer (s : State) (st : StationId) : SameTables s (s.startPollTimer st) := by
  unfold State.startPollTimer
  split
  · exact sameTables_modStation s st _
  · exact .refl s

theorem sameTables_restartPollTimer (s : State) (st : StationId) : SameTables s (s.restartPollTimer st) := by
  unfold State.restartPollTimer
  split
  · exact sameTables_modStation s st _
  · exact .refl s

theorem sameTables_clearFailures (s : State) (st : StationId) : SameTables s (s.clearFailures st) := by
  unfold State.clearFailures
  split
  · exact sameTables_modStation s st _
  · exact .refl s

theorem sameTables_countFailure (s : State) (st : StationId) : SameTables s (s.countFailure st) := by
  unfold State.countFailure
  split
  · exact sameTables_modStation s st _
  · exact .refl s

theorem sameTables_startBackoff (s : State) (st : StationId) : SameTables s (s.startBackoff st) := by
  unfold State.startBackoff
  split
  · exact sameTables_modStation s st _
  · exact .refl s

theorem sameTables_coalesce (s : State) : SameTables s s.coalesce := by
  unfold State.coalesce
  split
  · exact ⟨rfl, rfl, rfl, rfl, rfl, rfl, rfl, Nat.zero_le _⟩
  · split <;> exact ⟨rfl, rfl, rfl, rfl, rfl, rfl, rfl, le_rfl⟩

theorem sameTables_announceSince (s before : State) : SameTables s (s.announceSince before) := by
  unfold State.announceSince
  split
  · exact sameTables_coalesce s
  · exact .refl s

theorem sameTables_thresholdWritten (s : State) : SameTables s s.thresholdWritten := by
  unfold State.thresholdWritten
  split
  · exact ⟨rfl, rfl, rfl, rfl, rfl, rfl, rfl, Nat.zero_le _⟩
  · exact .refl s

theorem sameTables_enterRunningIfProbed (s : State) : SameTables s s.enterRunningIfProbed := by
  unfold State.enterRunningIfProbed
  split
  · exact ⟨rfl, rfl, rfl, rfl, rfl, rfl, rfl, le_rfl⟩
  · exact .refl s

theorem sameTables_firstByteReceived (s : State) : SameTables s s.firstByteReceived := by
  rw [State.firstByteReceived_eq]
  split
  · exact ⟨rfl, rfl, rfl, rfl, rfl, rfl, rfl, le_rfl⟩
  · exact .refl s

theorem sameTables_startByte (s : State) : SameTables s s.startByte := by
  rw [State.startByte_eq]
  split
  · exact ⟨rfl, rfl, rfl, rfl, rfl, rfl, rfl, le_rfl⟩
  · exact sameTables_firstByteReceived s

/-! ## Edits and completions -/

section
variable {E : Prop}

theorem changes_modSlot (s : State) (i : SlotId) {f : Slot → Slot} (h : (s.slot i).Edit (f (s.slot i))) :
    Changes E s (s.modSlot i f) := .single (.edit s i h)

/-- Edits of one slot record after another that leave it to the guards of R1 to R4 as they are. -/
theorem changes_foldl_modSlot (f : Slot → Slot) (hf : ∀ x : Slot, x.Edit (f x)) (ids : List SlotId) (s : State) :
    Changes E s (ids.foldl (fun t i => t.modSlot i f) s) := by
  induction ids generalizing s with
  | nil => exact .refl
  | cons i ids ih => exact (changes_modSlot s i (hf _)).trans (ih _)

theorem changes_complete {s : State} {i : SlotId} {r : Result} (hr : r.suits (s.slot i))
    (h : E → (s.slot i).state ≠ .claimed) : Changes E s (s.complete i r) := .single (.complete s i r hr h)

/-- The outcomes that come with no station status. -/
theorem Result.suits_of_outcome {o : Ending} {x : Slot} {late unconfirmed : Bool}
    (h : o ≠ .ok ∧ o ≠ .stationError ∧ o ≠ .refused) :
    Result.suits { outcome := o, lateStop := late, abortUnconfirmed := unconfirmed } x := by
  obtain ⟨h1, h2, h3⟩ := h
  left
  simp [h1, h2, h3]

/-- A completion leaves no slot CLAIMED that was not. -/
theorem State.complete_not_claimed {s : State} (i j : SlotId) (r : Result) (h : (s.slot j).state ≠ .claimed) :
    ((s.complete i r).slot j).state ≠ .claimed := by
  cases hc : (s.slot i).state.canComplete with
  | false => rwa [State.complete_other hc]
  | true =>
    have e : (s.complete i r).slot j = (s.setSlot i
        { (s.slot i).close r with chain := (s.slot i).chain.take (s.slot i).keptBlocks }).slot j := by
      rw [State.complete_eq hc]
      rfl
    rw [e, State.slot_setSlot]
    split
    · simp [Slot.close]
    · exact h

theorem changes_completeAll {o : Ending} (ho : o ≠ .ok ∧ o ≠ .stationError ∧ o ≠ .refused) (ids : List SlotId)
    {s : State} (h : ∀ i ∈ ids, (s.slot i).state ≠ .claimed) : Changes E s (s.completeAll ids o) := by
  unfold State.completeAll
  induction ids generalizing s with
  | nil => exact .refl
  | cons i ids ih =>
    have hfirst : Changes E s (s.complete i { outcome := o }) :=
      changes_complete (Result.suits_of_outcome ho) fun _ => h i (by simp)
    exact hfirst.trans (ih fun j hj => State.complete_not_claimed i j _ (h j (by simp [hj])))

theorem changes_completePending {s : State} {i : SlotId} (b : Bool) (h : (s.slot i).state ≠ .claimed) :
    Changes E s (s.completePending i b) := by
  unfold State.completePending
  split
  · rename_i o ho
    exact changes_complete (.inr ⟨ho, rfl⟩) fun _ => h
  · exact .refl

theorem State.completePending_not_claimed {s : State} (i j : SlotId) (b : Bool) (h : (s.slot j).state ≠ .claimed) :
    ((s.completePending i b).slot j).state ≠ .claimed := by
  unfold State.completePending
  split
  · exact State.complete_not_claimed i j _ h
  · exact h

theorem changes_enterAborting {s : State} {i : SlotId} {o : Ending} (ho : o.isPending = true)
    (h : (s.slot i).state.canStop = true) : Changes E s (s.enterAborting i o) := by
  have hedit : Changes E s (s.modSlot i fun x => x.toAborting o) := changes_modSlot s i (.abort o ho h)
  unfold State.enterAborting
  dsimp only
  split
  · exact hedit.trans (sameTables_leaveParked _ _ i).changes
  · exact hedit

theorem StopKind.ending_isPending (k : StopKind) : k.ending.isPending = true := by cases k <;> rfl

theorem StopKind.ending_noStatus (k : StopKind) :
    k.ending ≠ .ok ∧ k.ending ≠ .stationError ∧ k.ending ≠ .refused := by cases k <;> simp [StopKind.ending]

theorem changes_resolveStop {s : State} {i : SlotId} {f : State → State} (h : (s.slot i).state.canStop = true)
    (hf : Changes E s (f s)) : Changes E s (s.resolveStop i f) := by
  unfold State.resolveStop
  split
  · rename_i k _
    exact changes_enterAborting k.ending_isPending h
  · exact hf

theorem changes_stopAtOnce (s : State) (i : SlotId) (k : StopKind) : Changes E s (s.stopAtOnce i k) := by
  unfold State.stopAtOnce
  split
  case h_1 hs _ => exact changes_complete (Result.suits_of_outcome k.ending_noStatus) fun _ => by simp [hs]
  case h_2 hs _ => exact changes_enterAborting k.ending_isPending (by simp [hs, SlotState.canStop])
  case h_3 hs => exact changes_enterAborting k.ending_isPending (by simp [hs, SlotState.canStop])
  case h_4 hs => exact changes_enterAborting k.ending_isPending (by simp [hs, SlotState.canStop])
  all_goals exact .refl

theorem changes_takeStop (s : State) (i : SlotId) (k : StopKind) : Changes E s (s.takeStop i k) := by
  unfold State.takeStop
  split
  · exact changes_modSlot s i (.aside _ _ _ _ _ _ _ _ _ _)
  · exact changes_stopAtOnce s i k

/-! ## The scheduler -/

theorem changes_sendSlotFrame (s : State) (i : SlotId) : Changes E s (s.sendSlotFrame i) := by
  unfold State.sendSlotFrame
  dsimp only
  split
  · exact (changes_modSlot s i (f := fun y => { y with inFlight := true, possiblyOpened := _ })
      (.aside _ _ _ _ _ _ _ _ _ _)).trans
      (SameTables.changes ⟨rfl, rfl, rfl, rfl, rfl, rfl, rfl, le_rfl⟩)
  · exact .refl

theorem changes_resumeSlot {s : State} {i : SlotId} (h : (s.slot i).state = .parked) :
    Changes E s (s.resumeSlot i) := by
  unfold State.resumeSlot
  split
  · rename_i st _
    have hleave := sameTables_leaveParked s st i
    refine hleave.changes.trans ((changes_modSlot _ i (.resume ?_)).trans (sameTables_modStation _ st _).changes)
    rw [hleave.slot, h]
  · exact .refl

/-- A resumption is chosen only for a PARKED slot (R91). -/
theorem State.walkChoice_resume {s : State} {i j : SlotId} (h : s.walkChoice i = some (.resume j)) :
    j = i ∧ (s.slot i).state = .parked := by
  unfold State.walkChoice at h
  dsimp only at h
  split at h
  · cases h
  · split at h
    · split at h
      case h_2 hs =>
        split at h
        · exact ⟨by cases h; rfl, hs⟩
        · cases h
      case h_3 => split at h <;> cases h
      all_goals cases h
    · cases h

theorem State.choose_resume {s : State} {i : SlotId} (h : s.choose = some (.resume i)) :
    (s.slot i).state = .parked := by
  unfold State.choose at h
  split at h
  case h_1 =>
    simp only [Option.or_eq_some_iff, State.abortChoice, State.syncChoice, State.pollChoice, Option.map_eq_some_iff,
      reduceCtorEq, and_false, exists_false, false_or] at h
    obtain ⟨-, -, -, hwalk⟩ := h
    obtain ⟨_, j, _, -, hj, -⟩ := List.findSome?_eq_some_iff.mp hwalk
    obtain ⟨rfl, hs⟩ := State.walkChoice_resume hj
    exact hs
  case h_2 => simp [State.syncChoice] at h
  all_goals cases h

theorem changes_dispatch (s : State) : Changes E s s.dispatch := by
  unfold State.dispatch
  split
  · split
    · rename_i c hc
      cases c with
      | slotFrame i => exact changes_sendSlotFrame s i
      | resume i => exact (changes_resumeSlot (State.choose_resume hc)).trans (changes_sendSlotFrame _ i)
      | sync st => exact SameTables.changes ⟨rfl, rfl, rfl, rfl, rfl, rfl, rfl, le_rfl⟩
      | poll st => exact SameTables.changes ⟨rfl, rfl, rfl, rfl, rfl, rfl, rfl, le_rfl⟩
    · exact .refl
  · exact .refl

end

end Sys2Proof.Machine

/-! The shared operations of the exchange, the station table, the link and the report as runs of changes of the tables. -/

namespace Sys2Proof.Machine

/-! ## The slot that takes a report (R101) -/

/-- What a slot record must be to take the report of a frame: its flag is set and it offers that frame. -/
structure Slot.Takes (x : Slot) (kind : FrameKind) (index : Nat) : Prop where
  notParked : x.state ≠ .parked
  offers : x.nextFrame = some (kind, index)

theorem State.slotTaking_eq_some {s : State} {f : Frame} {i : SlotId} (h : s.slotTaking f = some i) :
    f.slot = some i ∧ (s.slot i).inFlight = true ∧ (s.slot i).Takes f.kind f.index := by
  unfold State.slotTaking at h
  split at h
  · rename_i j hj
    dsimp only at h
    split at h
    · rename_i hc
      obtain rfl := Option.some.inj h
      simp only [Bool.and_eq_true, decide_eq_true_eq] at hc
      obtain ⟨⟨hfl, hp⟩, ho⟩ := hc
      exact ⟨hj, hfl, hp, ho⟩
    · cases h
  · cases h

/-- SEND, PULL and FINISH are offered in the data phase of a STORE, that of a FETCH, and the finishing phase. -/
theorem Slot.exchangeFrame_eq_some {x : Slot} {kind : FrameKind} {index : Nat}
    (h : x.exchangeFrame = some (kind, index)) :
    (x.phase = .finishing ∧ kind = .finish ∧ index = 0) ∨
    (x.phase = .data ∧ x.desc.kind = .store ∧ kind = .send ∧ index = x.nextIndex) ∨
    (x.phase = .data ∧ x.desc.kind = .fetch ∧ kind = .pull ∧ index = x.nextIndex) := by
  unfold Slot.exchangeFrame at h
  split at h
  · cases h; simp_all
  · split at h <;> cases h <;> simp_all

/-- The slot that takes a report is QUEUED for an OPEN, OPEN for a SEND, PULL or FINISH, ABORTING for an ABORT. -/
theorem Slot.Takes.cases {x : Slot} {kind : FrameKind} {index : Nat} (h : x.Takes kind index) :
    (x.state = .queued ∧ kind = .openReq ∧ index = 0) ∨
    (x.state = .opened ∧ x.exchangeFrame = some (kind, index)) ∨
    (x.state = .aborting ∧ kind = .abort ∧ index = 0) := by
  obtain ⟨hp, ho⟩ := h
  unfold Slot.nextFrame at ho
  split at ho
  case h_1 hs => cases ho; exact .inl ⟨hs, rfl, rfl⟩
  case h_2 hs => exact .inr (.inl ⟨hs, ho⟩)
  case h_3 hs => exact absurd hs hp
  case h_4 hs => cases ho; exact .inr (.inr ⟨hs, rfl, rfl⟩)
  all_goals cases ho

theorem Slot.Takes.isActive {x : Slot} {kind : FrameKind} {index : Nat} (h : x.Takes kind index) :
    x.state.isActive = true := by
  rcases h.cases with ⟨hs, -⟩ | ⟨hs, -⟩ | ⟨hs, -⟩ <;> simp [hs, SlotState.isActive]

theorem Slot.Takes.not_claimed {x : Slot} {kind : FrameKind} {index : Nat} (h : x.Takes kind index) :
    x.state ≠ .claimed := fun e => by simpa [e, SlotState.isActive] using h.isActive

/-- A slot that takes the report of a frame other than ABORT is QUEUED or OPEN. -/
theorem Slot.Takes.canStop {x : Slot} {kind : FrameKind} {index : Nat} (h : x.Takes kind index)
    (hk : kind ≠ .abort) : x.state.canStop = true := by
  rcases h.cases with ⟨hs, -⟩ | ⟨hs, -⟩ | ⟨-, hab, -⟩
  · simp [hs, SlotState.canStop]
  · simp [hs, SlotState.canStop]
  · exact absurd hab hk

theorem Slot.Takes.queued {x : Slot} {index : Nat} (h : x.Takes .openReq index) : x.state = .queued := by
  rcases h.cases with ⟨hs, -⟩ | ⟨-, ho⟩ | ⟨-, hab, -⟩
  · exact hs
  · rcases Slot.exchangeFrame_eq_some ho with ⟨-, hk, -⟩ | ⟨-, -, hk, -⟩ | ⟨-, -, hk, -⟩ <;> cases hk
  · cases hab

/-- A slot that takes the report of a frame other than OPEN and ABORT is OPEN and offers that frame. -/
theorem Slot.Takes.opened {x : Slot} {kind : FrameKind} {index : Nat} (h : x.Takes kind index)
    (hq : kind ≠ .openReq) (hk : kind ≠ .abort) : x.state = .opened ∧ x.exchangeFrame = some (kind, index) := by
  rcases h.cases with ⟨-, he, -⟩ | ho | ⟨-, hab, -⟩
  · exact absurd he hq
  · exact ho
  · exact absurd hab hk

/-- A slot that takes a TAKEN is an OPEN STORE in the data phase. -/
theorem Slot.Takes.send {x : Slot} {index : Nat} (h : x.Takes .send index) :
    x.state = .opened ∧ x.phase = .data ∧ x.desc.kind = .store ∧ index = x.nextIndex := by
  obtain ⟨hs, ho⟩ := h.opened (by simp) (by simp)
  rcases Slot.exchangeFrame_eq_some ho with ⟨-, hk, -⟩ | ⟨hp, hd, -, hi⟩ | ⟨-, -, hk, -⟩
  · cases hk
  · exact ⟨hs, hp, hd, hi⟩
  · cases hk

/-- A slot that takes a GIVE is an OPEN FETCH in the data phase. -/
theorem Slot.Takes.pull {x : Slot} {index : Nat} (h : x.Takes .pull index) :
    x.state = .opened ∧ x.phase = .data ∧ x.desc.kind = .fetch ∧ index = x.nextIndex := by
  obtain ⟨hs, ho⟩ := h.opened (by simp) (by simp)
  rcases Slot.exchangeFrame_eq_some ho with ⟨-, hk, -⟩ | ⟨-, -, hk, -⟩ | ⟨hp, hd, -, hi⟩
  · cases hk
  · cases hk
  · exact ⟨hs, hp, hd, hi⟩

/-- Clearing the in-flight flag does not change what a slot offers. -/
@[simp] theorem Slot.nextFrame_inFlight (x : Slot) (b : Bool) : { x with inFlight := b }.nextFrame = x.nextFrame := rfl

/-! ## Valid replies -/

section
variable {E : Prop}

theorem changes_inFlight (s : State) (i : SlotId) (b : Bool) :
    Changes E s (s.modSlot i fun x => { x with inFlight := b }) := changes_modSlot s i (.aside _ _ _ _ _ _ _ _ _ _)

theorem changes_slotAccept {s : State} {i : SlotId} (st : StationId) (h : (s.slot i).state = .queued) :
    Changes E s (s.slotAccept i st) := by
  have hacc : Changes E s (s.modSlot i fun x => { x with
      state := .opened, phase := if x.desc.kind = .control then .finishing else .data
      nextIndex := 0, bytesMoved := 0 }) := changes_modSlot s i (.accept h)
  unfold State.slotAccept State.resolveStop
  dsimp only
  split
  · rename_i k _
    have habort := changes_enterAborting (E := E) (s := (s.modSlot i fun x => { x with
      state := .opened, phase := if x.desc.kind = .control then .finishing else .data
      nextIndex := 0, bytesMoved := 0 }).modStation st fun r => { r with engaged := some i }) (i := i)
      k.ending_isPending (by simp [SlotState.canStop])
    refine hacc.trans ((sameTables_modStation _ st _).changes.trans (habort.trans (SameTables.changes ?_)))
    have e : ((s.modSlot i fun x => { x with
        phase := if x.desc.kind = .control then .finishing else .data, nextIndex := 0, bytesMoved := 0 }).modStation st
        fun r => { r with engaged := some i }).enterAborting i k.ending =
      ((s.modSlot i fun x => { x with
        state := .opened, phase := if x.desc.kind = .control then .finishing else .data
        nextIndex := 0, bytesMoved := 0 }).modStation st fun r => { r with engaged := some i }).enterAborting i
          k.ending := by
      simp [State.enterAborting, State.modSlot, State.setSlot, State.slot, State.modStation, State.setStation,
        Slot.toAborting, State.station]
    rw [e]
    exact .refl _
  · refine hacc.trans (SameTables.changes ?_)
    have e : ∀ f g, ((s.modSlot i f).modStation st fun r => { r with engaged := some i }).modSlot i g =
        (s.modSlot i fun x => g (f x)).modStation st fun r => { r with engaged := some i } := fun f g => by
      simp [State.modSlot, State.setSlot, State.slot, State.modStation, State.setStation, State.station]
    rw [e]
    exact sameTables_modStation _ st _

theorem changes_slotRefuse {s : State} {i : SlotId} (r : Byte) (h : (s.slot i).state ≠ .claimed) :
    Changes E s (s.slotRefuse i r) := by
  refine (changes_modSlot s i (f := fun x => { x with possiblyOpened := false }) (.aside _ _ _ _ _ _ _ _ _ _)).trans
    (changes_complete (.inl (by simp)) fun _ => ?_)
  simpa using h

theorem changes_slotResult {s : State} {i : SlotId} (v : Byte) (h : (s.slot i).state ≠ .claimed) :
    Changes E s (s.slotResult i v) := by
  refine changes_complete (.inl ?_) fun _ => h
  by_cases hv : v = 0 <;> simp [hv]

theorem changes_slotTaken {s : State} {i : SlotId} (h : (s.slot i).state = .opened)
    (hp : (s.slot i).phase = .data) (hk : (s.slot i).desc.kind = .store) : Changes E s (s.slotTaken i) := by
  unfold State.slotTaken
  dsimp only
  refine (changes_modSlot s i (f := fun x => x.afterTaken) (.taken h hp hk)).trans
    (.trans (SameTables.changes ?_) (changes_resolveStop ?_ .refl))
  · exact ⟨rfl, rfl, rfl, rfl, rfl, rfl, rfl, le_rfl⟩
  · have e : ∀ (t : State) n j, (t.countPayload n).slot j = t.slot j := fun _ _ _ => rfl
    simp [e, Slot.afterTaken, h, SlotState.canStop]

theorem changes_slotGive {s : State} {i : SlotId} {payload : List Byte} (h : (s.slot i).state = .opened)
    (hp : (s.slot i).phase = .data) (hk : (s.slot i).desc.kind = .fetch)
    (hs : payload.length ≤ Config.segmentBytes) (hl : payload.length ≤ (s.slot i).len - (s.slot i).bytesMoved) :
    Changes E s (s.slotGive i payload) := by
  unfold State.slotGive
  dsimp only
  refine Relation.ReflTransGen.head (.store s (s.slot i).chain (Config.segmentBytes * (s.slot i).nextIndex) payload) ?_
  refine (changes_modSlot _ i (f := fun y => y.afterGive payload.length) ?_).trans
    (.trans (SameTables.changes ?_) (changes_resolveStop ?_ .refl))
  · exact .give _ h hp hk hs hl
  · exact ⟨rfl, rfl, rfl, rfl, rfl, rfl, rfl, le_rfl⟩
  · have e : ∀ (t : State) n j, (t.countPayload n).slot j = t.slot j := fun _ _ _ => rfl
    have e' : ∀ m : Memory, ({ s with mem := m } : State).slot i = s.slot i := fun _ => rfl
    simp [e, e', Slot.afterGive, h, SlotState.canStop]

theorem changes_slotWait {s : State} {i : SlotId} (kind : FrameKind) (h : (s.slot i).state.canStop = true) :
    Changes E s (s.slotWait i kind) := by
  unfold State.slotWait
  dsimp only
  have hedit : Changes E s (s.modSlot i fun x => if kind = .openReq then x.countBusy.waitToOpen else x.countBusy) :=
    changes_modSlot s i (by split <;> exact .aside _ _ _ _ _ _ _ _ _ _)
  have hst : ((s.modSlot i fun x => if kind = .openReq then x.countBusy.waitToOpen else x.countBusy).slot i).state =
      (s.slot i).state := by
    rw [State.slot_modSlot_self]
    split <;> rfl
  have hc : (s.slot i).state ≠ .claimed := fun e => by simp [e, SlotState.canStop] at h
  generalize s.modSlot i (fun x => if kind = .openReq then x.countBusy.waitToOpen else x.countBusy) = t at hedit hst ⊢
  refine hedit.trans ?_
  split
  · rename_i k _
    split
    · exact changes_complete (Result.suits_of_outcome k.ending_noStatus) fun _ => hst ▸ hc
    · exact changes_enterAborting k.ending_isPending (hst ▸ h)
  · split
    · split
      · exact changes_complete (Result.suits_of_outcome (by simp)) fun _ => hst ▸ hc
      · exact changes_enterAborting rfl (hst ▸ h)
    · exact .refl

theorem changes_slotPark {s : State} {i : SlotId} (st : StationId) (h : (s.slot i).state = .opened) :
    Changes E s (s.slotPark i st) := by
  unfold State.slotPark
  refine (sameTables_modStation s st _).changes.trans (changes_resolveStop ?_ ?_)
  · rw [State.slot_modStation, h]
    rfl
  refine (changes_modSlot _ i (f := fun x => { x with state := .parked, ready := false }) (.park (by exact h))).trans
    (.trans (sameTables_modStation _ st _).changes (sameTables_startPollTimer _ st).changes)

/-- A valid reply to the frame of the slot that takes it. -/
theorem changes_slotValid {s : State} {i : SlotId} {f : Frame} {r : Reply} (h : (s.slot i).Takes f.kind f.index)
    (hr : f.kind.allows r = true)
    (hg : ∀ payload, r = .give payload → payload.length ≤ Config.segmentBytes ∧
      payload.length ≤ (s.slot i).len - (s.slot i).bytesMoved) :
    Changes E s (s.slotValid i f r) := by
  have hc := h.not_claimed
  cases r with
  | present d => exact .refl
  | accept =>
    have hk : f.kind = .openReq := by cases hk : f.kind <;> simp [hk, FrameKind.allows] at hr ⊢
    exact changes_slotAccept _ (hk ▸ h).queued
  | refuse v => exact changes_slotRefuse v hc
  | taken =>
    have hk : f.kind = .send := by cases hk : f.kind <;> simp [hk, FrameKind.allows] at hr ⊢
    obtain ⟨ho, hp, hd, -⟩ := (hk ▸ h).send
    exact changes_slotTaken ho hp hd
  | give payload =>
    have hk : f.kind = .pull := by cases hk : f.kind <;> simp [hk, FrameKind.allows] at hr ⊢
    obtain ⟨ho, hp, hd, -⟩ := (hk ▸ h).pull
    obtain ⟨hs, hl⟩ := hg payload rfl
    exact changes_slotGive ho hp hd hs hl
  | result v => exact changes_slotResult v hc
  | wait =>
    refine changes_slotWait _ (h.canStop ?_)
    rintro hk
    simp [hk, FrameKind.allows] at hr
  | park =>
    refine changes_slotPark _ (h.opened ?_ ?_).1
    all_goals
      rintro hk
      simp [hk, FrameKind.allows] at hr
  | nothing => exact .refl
  | ready tag => exact .refl
  | done => exact changes_completePending false hc

/-! ## Failed outcomes -/

theorem changes_slotFailed {s : State} {i : SlotId} (violation : Bool) (h : (s.slot i).state.canStop = true) :
    Changes E s (s.slotFailed i violation) := by
  have hc : (s.slot i).state ≠ .claimed := fun e => by simp [e, SlotState.canStop] at h
  refine changes_resolveStop h ?_
  split
  · exact changes_enterAborting rfl h
  · split
    · rename_i hpos
      exact changes_modSlot s i (.retry hpos h)
    · exact changes_complete (Result.suits_of_outcome (by simp)) fun _ => hc

/-! ## The station table -/

theorem State.slotsAt_state {s : State} {st : StationId} {p : SlotState → Bool} {i : SlotId}
    (h : i ∈ s.slotsAt st p) : p (s.slot i).state = true := by
  have h := (List.mem_filter.mp h).2
  rw [Bool.and_eq_true] at h
  exact h.2

/-- A station's event that reaches no CLAIMED slot. -/
theorem State.slotsAt_not_claimed {s : State} {st : StationId} {p : SlotState → Bool} {i : SlotId}
    (hp : p .claimed = false) (h : i ∈ s.slotsAt st p) : (s.slot i).state ≠ .claimed := by
  intro e
  have hstate := State.slotsAt_state h
  rw [e, hp] at hstate
  cases hstate

theorem changes_disableAtOnce (s : State) (st : StationId) : Changes E s (s.disableAtOnce st) := by
  refine (sameTables_modStation s st _).changes.trans (changes_completeAll (by simp) _ fun i hi =>
    State.slotsAt_not_claimed (s := s) rfl hi)

theorem changes_finishWithdrawal (s : State) (st : StationId) : Changes E s (s.finishWithdrawal st) := by
  refine (sameTables_modStation s st _).changes.trans (changes_completeAll (by simp) _ fun i hi =>
    State.slotsAt_not_claimed (s := s) rfl hi)

theorem changes_probeFailed (s : State) (st : StationId) : Changes E s (s.probeFailed st) := by
  unfold State.probeFailed
  dsimp only
  split
  · refine (sameTables_modStation s st _).changes.trans (changes_completeAll (by simp) _ fun i hi =>
      State.slotsAt_not_claimed (s := s) rfl hi)
  · exact (sameTables_modStation s st _).changes

theorem changes_withdrawFailed (s : State) (st : StationId) : Changes E s (s.withdrawFailed st) := by
  unfold State.withdrawFailed
  split
  · exact changes_finishWithdrawal s st
  · exact (sameTables_modStation s st _).changes

theorem changes_foldl_completePending (b : Bool) (ids : List SlotId) {s : State}
    (h : ∀ i ∈ ids, (s.slot i).state ≠ .claimed) :
    Changes E s (ids.foldl (fun t i => t.completePending i b) s) := by
  induction ids generalizing s with
  | nil => exact .refl
  | cons i ids ih =>
    refine (changes_completePending b (h i (by simp))).trans (ih fun j hj => ?_)
    exact State.completePending_not_claimed i j b (h j (by simp [hj]))

theorem changes_probeAnswered (s : State) (st : StationId) (d : Nat) : Changes E s (s.probeAnswered st d) := by
  unfold State.probeAnswered
  refine (sameTables_modStation s st _).changes.trans (.trans (changes_foldl_completePending false _ fun i hi =>
    State.slotsAt_not_claimed rfl hi) (changes_foldl_modSlot _ (fun x => .aside _ _ _ _ _ _ _ _ _ _) _ _))

/-- A DISABLE_STATION that begins a withdrawal: under `E` the engaged slot has been posted. -/
theorem changes_startWithdrawal {s : State} {st : StationId}
    (h : E → ∀ i : SlotId, (s.station st).engaged = some i → (s.slot i).state ≠ .claimed) :
    Changes E s (s.startWithdrawal st) := by
  have hengaged : Changes E s ((s.modStation st fun r => r.beginWithdrawal).withdrawEngaged st) := by
    refine (sameTables_modStation s st fun r => r.beginWithdrawal).changes.trans ?_
    unfold State.withdrawEngaged
    refine .trans ?_ (sameTables_modStation _ st _).changes
    split
    · rename_i i hi
      rw [State.station_modStation_self] at hi
      exact changes_complete (Result.suits_of_outcome (by simp)) fun he => h he i hi
    · exact .refl
  have hparked : ∀ t : State, Changes E t (t.withdrawParked st) := fun t =>
    (changes_foldl_modSlot _ (fun x => .aside _ _ _ _ _ _ _ _ _ _) _ t).trans (sameTables_modStation _ st _).changes
  have hdetach : ∀ t : State, Changes E t (t.detachFrame st) := fun t => by
    unfold State.detachFrame
    split
    · split
      · split
        · exact changes_modSlot t _ (.aside _ _ _ _ _ _ _ _ _ _)
        · exact .refl
      · exact .refl
    · exact .refl
  exact hengaged.trans ((hparked _).trans (hdetach _))

theorem changes_faultStep {s : State} {st : StationId} {cause : State → State}
    (h : ∀ t : State, SameTables s t → Changes E t (cause t)) : Changes E s (s.faultStep st cause) := by
  have hs := sameTables_modStation s st fun r => r.fault
  exact hs.changes.trans ((h _ hs).trans (changes_completeAll (by simp) _ fun i hi =>
    State.slotsAt_not_claimed rfl hi))

theorem changes_endAbort {s : State} {i : SlotId} (violation : Bool) (h : (s.slot i).state ≠ .claimed) :
    Changes E s (s.endAbort i violation) := by
  unfold State.endAbort
  refine (changes_modSlot s i (.aside _ _ _ _ _ _ _ _ _ _)).trans (changes_completePending true ?_)
  simpa using h

theorem State.completeCause_failEnding_noStatus (s : State) (i : SlotId) (violation : Bool) :
    State.completeCause.failEnding s i violation ≠ .ok ∧ State.completeCause.failEnding s i violation ≠ .stationError ∧
      State.completeCause.failEnding s i violation ≠ .refused := by
  unfold State.completeCause.failEnding
  split <;> simp

theorem changes_completeCause {s : State} {i : SlotId} (kind : FrameKind) (violation : Bool)
    (h : (s.slot i).state ≠ .claimed) : Changes E s (s.completeCause i kind violation) := by
  have hcomplete : Changes E s (s.complete i { outcome := State.completeCause.failEnding s i violation }) :=
    changes_complete (Result.suits_of_outcome (s.completeCause_failEnding_noStatus i violation)) fun _ => h
  cases kind with
  | sync | poll => exact .refl
  | abort => exact changes_endAbort violation h
  | openReq | send | pull | finish => exact hcomplete

theorem changes_abortFailed {s : State} {i : SlotId} (st : StationId) (violation : Bool)
    (h : (s.slot i).state ≠ .claimed) : Changes E s (s.abortFailed i st violation) := by
  unfold State.abortFailed
  split
  · exact changes_faultStep fun t ht => changes_endAbort violation (ht.slot i ▸ h)
  · exact changes_modSlot s i (.aside _ _ _ _ _ _ _ _ _ _)

theorem changes_slotFailure {s : State} {i : SlotId} {f : Frame} (violation : Bool)
    (h : (s.slot i).Takes f.kind f.index) : Changes E s (s.slotFailure i f violation) := by
  have hfail : f.kind ≠ .abort → Changes E s (s.slotFailed i violation) := fun hk =>
    changes_slotFailed violation (h.canStop hk)
  unfold State.slotFailure
  split
  case h_1 => exact changes_abortFailed _ violation h.not_claimed
  case h_6 | h_7 => exact .refl
  all_goals
    rename_i hk
    exact hfail (by simp [hk])

/-! ## The link -/

theorem changes_abandonFrame (s : State) : Changes E s s.abandonFrame := by
  unfold State.abandonFrame
  split
  · dsimp only
    split
    · refine .trans ?_ (changes_inFlight _ _ false)
      exact SameTables.changes ⟨rfl, rfl, rfl, rfl, rfl, rfl, rfl, le_rfl⟩
    · exact SameTables.changes ⟨rfl, rfl, rfl, rfl, rfl, rfl, rfl, le_rfl⟩
  · exact .refl

/-- The walk of the stop or loss step ends a slot by its state, which is none of a slot that has not been posted. -/
theorem State.linkEnding_eq_some {s : State} {a : Option SlotId} {o e : Ending} {i : SlotId}
    (h : s.linkEnding a o i = some e) :
    (s.slot i).state.isActive = true ∧ (e = o ∨ e = .withdrawn ∨ ∃ k : StopKind, e = k.ending) := by
  unfold State.linkEnding at h
  split at h
  case h_4 hs =>
    refine ⟨by simp [hs, SlotState.isActive], ?_⟩
    split at h
    · cases h; simp
    · split at h
      · obtain ⟨k, -, rfl⟩ := Option.map_eq_some_iff.mp h
        exact .inr (.inr ⟨k, rfl⟩)
      · cases h
  case h_1 hs | h_2 hs | h_3 hs => cases h; simp [hs, SlotState.isActive]
  all_goals cases h

theorem changes_endLinkSlots (s : State) (a : Option SlotId) {o : Ending}
    (ho : o ≠ .ok ∧ o ≠ .stationError ∧ o ≠ .refused) : Changes E s (s.endLinkSlots a o) := by
  have walk : ∀ (ids : List SlotId) (t : State),
      (∀ j : SlotId, (s.slot j).state ≠ .claimed → (t.slot j).state ≠ .claimed) →
      Changes E t (ids.foldl (fun t i =>
        match s.linkEnding a o i with
        | some e => t.complete i { outcome := e }
        | none => t) t) := by
    intro ids
    induction ids with
    | nil => exact fun t _ => .refl
    | cons i ids ih =>
      intro t ht
      cases he : s.linkEnding a o i with
      | none => simpa only [List.foldl_cons, he] using ih t ht
      | some e =>
        obtain ⟨hact, hend⟩ := State.linkEnding_eq_some he
        have hnot : (s.slot i).state ≠ .claimed := fun hc => by simp [hc, SlotState.isActive] at hact
        have hstat : e ≠ .ok ∧ e ≠ .stationError ∧ e ≠ .refused := by
          rcases hend with rfl | rfl | ⟨k, rfl⟩
          · exact ho
          · simp
          · exact k.ending_noStatus
        simp only [List.foldl_cons, he]
        exact (changes_complete (Result.suits_of_outcome hstat) fun _ => ht i hnot).trans
          (ih _ fun j hj => State.complete_not_claimed i j _ (ht j hj))
  exact walk s.walkOrder s fun _ h => h

theorem changes_linkDown (s : State) (target : LinkState) {o : Ending}
    (ho : o ≠ .ok ∧ o ≠ .stationError ∧ o ≠ .refused) : Changes E s (s.linkDown target o) :=
  (changes_abandonFrame s).trans ((changes_endLinkSlots _ _ ho).trans
    (SameTables.changes ⟨rfl, rfl, rfl, rfl, rfl, rfl, rfl, le_rfl⟩))

theorem changes_linkLoss (s : State) : Changes E s s.linkLoss := changes_linkDown s _ (by simp)

theorem changes_linkStopped (s : State) : Changes E s s.linkStopped := changes_linkDown s _ (by simp)

theorem changes_reportLink (s : State) (kind : FrameKind) (o : FrameOutcome) :
    Changes E s (s.reportLink kind o) := by
  unfold State.reportLink
  split
  · exact changes_linkLoss s
  · split
    · exact changes_linkStopped s
    · split
      · exact (sameTables_enterRunningIfProbed s).changes
      · exact .refl

/-! ## The report -/

theorem changes_reportSync (s : State) (st : StationId) (o : FrameOutcome) : Changes E s (s.reportSync st o) := by
  unfold State.reportSync
  split
  case h_1 => exact changes_probeAnswered s st _
  case h_2 => exact changes_probeFailed s st
  case h_3 => exact changes_finishWithdrawal s st
  case h_4 => exact changes_withdrawFailed s st
  all_goals exact .refl

theorem changes_takeReady (s : State) (st : StationId) (tag : SlotId) : Changes E s (s.takeReady st tag) := by
  unfold State.takeReady
  split
  · exact changes_modSlot s tag (.aside _ _ _ _ _ _ _ _ _ _)
  · exact .refl

theorem changes_reportPoll (s : State) (st : StationId) (o : FrameOutcome) : Changes E s (s.reportPoll st o) := by
  unfold State.reportPoll
  split
  · refine (sameTables_clearFailures s st).changes.trans (.trans ?_ (sameTables_restartPollTimer _ st).changes)
    split
    · exact changes_takeReady _ st _
    · exact .refl
  · refine (sameTables_countFailure s st).changes.trans ?_
    dsimp only
    split
    · exact changes_faultStep fun t _ => .refl
    · exact (sameTables_restartPollTimer _ st).changes

theorem changes_reportFailure {s : State} {f : Frame} {tk : Option SlotId} (violation : Bool)
    (h : ∀ i, tk = some i → (s.slot i).Takes f.kind f.index) : Changes E s (s.reportFailure f tk violation) := by
  have hcount := sameTables_countFailure s f.station
  unfold State.reportFailure
  refine hcount.changes.trans ?_
  dsimp only
  split
  · refine changes_faultStep fun t ht => ?_
    split
    · rename_i i
      exact changes_completeCause _ violation (by rw [ht.slot, hcount.slot]; exact (h i rfl).not_claimed)
    · exact .refl
  · split
    · rename_i i
      exact changes_slotFailure violation (hcount.slot i ▸ h i rfl)
    · exact .refl

theorem changes_reportValid {s : State} {f : Frame} {tk : Option SlotId} {r : Reply}
    (h : ∀ i, tk = some i → (s.slot i).Takes f.kind f.index ∧ f.slot = some i)
    (hr : f.kind.allows r = true) (hfit : s.replyFits f r = true)
    (hs : ∀ payload, r = .give payload → payload.length ≤ Config.segmentBytes) :
    Changes E s (s.reportValid f tk r) := by
  have hclear := sameTables_clearFailures s f.station
  have hback : SameTables s (if r = .wait then (s.clearFailures f.station).startBackoff f.station
      else s.clearFailures f.station) := by
    split
    · exact hclear.trans (sameTables_startBackoff _ _)
    · exact hclear
  unfold State.reportValid
  dsimp only
  generalize (if r = .wait then (s.clearFailures f.station).startBackoff f.station
    else s.clearFailures f.station) = u at hback ⊢
  refine hback.changes.trans ?_
  split
  · rename_i i
    obtain ⟨htakes, hf⟩ := h i rfl
    have hslot := hback.slot i
    refine changes_slotValid (hslot ▸ htakes) hr fun payload hp => ⟨hs payload hp, ?_⟩
    subst hp
    simpa [State.replyFits, hf, hslot, Slot.len] using hfit
  · exact .refl

end

end Sys2Proof.Machine

/-! Every command, and so every step, as a run of changes of the tables. -/

namespace Sys2Proof.Machine

section
variable {E : Prop}

/-! ## The whole step of a report -/

/-- The effect of a report on the tables does not ask more of an outcome than the checks of R57 do. -/
def State.outcomeFits (s : State) (f : Frame) (o : FrameOutcome) : Prop :=
  ∀ r, o = .valid r → f.kind.allows r = true ∧ s.replyFits f r = true ∧
    ∀ payload, r = .give payload → payload.length ≤ Config.segmentBytes

theorem changes_endFrame (s : State) (f : Frame) (gap : Bool) : Changes E s (s.endFrame f gap) := by
  unfold State.endFrame
  dsimp only
  split
  · refine .trans ?_ (changes_inFlight _ _ false)
    exact SameTables.changes ⟨rfl, rfl, rfl, rfl, rfl, rfl, rfl, le_rfl⟩
  · exact SameTables.changes ⟨rfl, rfl, rfl, rfl, rfl, rfl, rfl, le_rfl⟩

/-- The end of a frame changes no more of a slot record than its in-flight flag. -/
theorem State.slot_endFrame (s : State) (f : Frame) (gap : Bool) (j : SlotId) :
    (s.endFrame f gap).slot j = { s.slot j with inFlight := if f.slot = some j then false else (s.slot j).inFlight } := by
  have e : ∀ g r, ({ s with frame := none, gapPassed := g, receiver := r } : State).slot j = s.slot j := fun _ _ => rfl
  unfold State.endFrame
  dsimp only
  split
  · rename_i i hi
    by_cases hj : j = i
    · subst hj; simp [hi, e]
    · simp [hi, State.slot_modSlot_ne _ _ _ _ hj, e, Ne.symm hj]
  · rename_i hn
    simp [hn, e]

theorem State.station_endFrame (s : State) (f : Frame) (gap : Bool) (v : StationId) :
    (s.endFrame f gap).station v = s.station v := by
  unfold State.endFrame
  dsimp only
  split <;> rfl

theorem changes_reportTables {s t : State} {f : Frame} {o : FrameOutcome}
    (ht : ∀ i, s.slotTaking f = some i → (t.slot i).Takes f.kind f.index)
    (ho : ∀ r, o = .valid r → f.kind.allows r = true ∧ t.replyFits f r = true ∧
      ∀ payload, r = .give payload → payload.length ≤ Config.segmentBytes) :
    Changes E t (t.reportTables f (s.slotTaking f) o) := by
  unfold State.reportTables
  split
  case h_1 => exact changes_reportSync t _ _
  case h_2 => exact changes_reportPoll t _ _
  case h_3 =>
    obtain ⟨ha, hfit, hs⟩ := ho _ rfl
    exact changes_reportValid (fun i hi => ⟨ht i hi, (State.slotTaking_eq_some hi).1⟩) ha hfit hs
  all_goals exact changes_reportFailure _ ht

/-- The state to which the tables take a report: the frame has ended and its outcome is counted. -/
def State.counted (s : State) (f : Frame) (gap : Bool) (o : FrameOutcome) : State :=
  { s.endFrame f gap with stats := (s.endFrame f gap).stats.countOutcome o }

/-- The state after the tables have taken a report, with the silent count changed. -/
def State.told (s : State) (f : Frame) (gap : Bool) (o : FrameOutcome) : State :=
  let t := (s.counted f gap o).reportTables f (s.slotTaking f) o
  { t with silentCount := nextSilentCount t.silentCount f.kind o }

theorem State.report_eq (s : State) (f : Frame) (gap : Bool) (o : FrameOutcome) :
    s.report f gap o = ((s.told f gap o).reportLink f.kind o).announceSince s := rfl

theorem State.slot_counted (s : State) (f : Frame) (gap : Bool) (o : FrameOutcome) (j : SlotId) :
    (s.counted f gap o).slot j =
      { s.slot j with inFlight := if f.slot = some j then false else (s.slot j).inFlight } := s.slot_endFrame f gap j

theorem State.station_counted (s : State) (f : Frame) (gap : Bool) (o : FrameOutcome) (v : StationId) :
    (s.counted f gap o).station v = s.station v := s.station_endFrame f gap v

theorem State.replyFits_counted (s : State) (f : Frame) (gap : Bool) (o : FrameOutcome) (r : Reply) :
    (s.counted f gap o).replyFits f r = s.replyFits f r := by
  cases r <;> simp only [State.replyFits, State.slot_counted, State.station_counted]

/-- The slot that takes a report offers the frame after the frame's end too. -/
theorem State.takes_counted {s : State} {f : Frame} {i : SlotId} (h : s.slotTaking f = some i) (gap : Bool)
    (o : FrameOutcome) : ((s.counted f gap o).slot i).Takes f.kind f.index := by
  obtain ⟨-, -, ht⟩ := State.slotTaking_eq_some h
  rw [State.slot_counted]
  exact ⟨ht.notParked, ht.offers⟩

theorem changes_told {s : State} {f : Frame} {o : FrameOutcome} (gap : Bool) (h : s.outcomeFits f o) :
    Changes E s (s.told f gap o) := by
  have hcounted : Changes E s (s.counted f gap o) :=
    (changes_endFrame s f gap).trans (SameTables.changes ⟨rfl, rfl, rfl, rfl, rfl, rfl, rfl, le_rfl⟩)
  have htables : Changes E (s.counted f gap o) ((s.counted f gap o).reportTables f (s.slotTaking f) o) :=
    changes_reportTables (fun i hi => State.takes_counted hi gap o) fun r hr => by
      rw [State.replyFits_counted]
      exact h r hr
  exact hcounted.trans (htables.trans (SameTables.changes ⟨rfl, rfl, rfl, rfl, rfl, rfl, rfl, le_rfl⟩))

theorem changes_report {s : State} {f : Frame} {o : FrameOutcome} (gap : Bool) (h : s.outcomeFits f o) :
    Changes E s (s.report f gap o) := by
  rw [State.report_eq]
  exact (changes_told gap h).trans ((changes_reportLink _ _ _).trans (sameTables_announceSince _ s).changes)

theorem changes_takeReceived {s : State} {o : Frame → FrameOutcome} (h : ∀ f, s.outcomeFits f (o f)) :
    Changes E s (s.takeReceived o) := by
  unfold State.takeReceived
  split
  · exact SameTables.changes ⟨rfl, rfl, rfl, rfl, rfl, rfl, rfl, le_rfl⟩
  · split
    · exact changes_report false (h _)
    · exact .refl
    · exact .refl

theorem State.outcomeFits_failed (s : State) (f : Frame) {o : FrameOutcome} (h : ∀ r, o ≠ .valid r) :
    s.outcomeFits f o := fun r hr => absurd hr (h r)

theorem changes_takeReply {s : State} {r : Reply} (h : ∀ p, r = .give p → p.length ≤ Config.segmentBytes) :
    Changes E s (s.takeReply r) := by
  refine changes_takeReceived fun f v hv => ?_
  split at hv
  · rename_i hvalid
    obtain ⟨ha, hfit⟩ := Bool.and_eq_true_iff.mp hvalid
    cases hv
    exact ⟨ha, hfit, h⟩
  · cases hv

/-! ## The commands -/

theorem sameTables_answer (s : State) (c : Status) : SameTables s (s.answer c) :=
  ⟨rfl, rfl, rfl, rfl, rfl, rfl, rfl, le_rfl⟩

theorem sameTables_flagStatus (s : State) (c : Status) : SameTables s (s.flagStatus c) :=
  ⟨rfl, rfl, rfl, rfl, rfl, rfl, rfl, le_rfl⟩

/-- A slot command makes the changes of its own rule, or none. -/
theorem changes_withSlot {s : State} {op : Byte} {rule : SlotId → State} (h : ∀ i, Changes E s (rule i)) :
    Changes E s (s.withSlot op rule) := by
  unfold State.withSlot
  split
  · exact h _
  · exact (sameTables_answer s _).changes

theorem changes_withStation {s : State} {op : Byte} {rule : StationId → State} (h : ∀ st, Changes E s (rule st)) :
    Changes E s (s.withStation op rule) := by
  unfold State.withStation
  split
  · exact h _
  · exact (sameTables_answer s _).changes

theorem changes_answer_dispatch {s t : State} (c : Status) (h : Changes E s t) :
    Changes E s (t.answer c).dispatch :=
  h.trans ((sameTables_answer t c).changes.trans (changes_dispatch _))

theorem changes_execClaim {s t : State} (h : execClaim s = .next t) : Changes E s t := by
  unfold execClaim at h
  split at h
  · rename_i i hi
    cases h
    have hfree : (s.slot i).state = .free := by simpa using List.find?_some hi
    exact (changes_modSlot s i (f := fun x => { x with state := .claimed, desc := Descriptor.claimed })
      (.claim hfree)).trans (SameTables.changes ⟨rfl, rfl, rfl, rfl, rfl, rfl, rfl, le_rfl⟩)
  · cases h
    exact (sameTables_answer s _).changes

theorem changes_setCursor (s : State) (i : SlotId) (n : Slot → Nat) :
    Changes E s (s.modSlot i fun x => { x with readCursor := n x }) :=
  changes_modSlot s i (.aside _ _ _ _ _ _ _ _ _ _)

theorem changes_execSelect {s t : State} {op : Byte} (h : execSelect op s = .next t) : Changes E s t := by
  cases h
  refine changes_withSlot fun i => .trans ?_ ((changes_setCursor _ i fun _ => 0).trans (sameTables_answer _ _).changes)
  exact SameTables.changes ⟨rfl, rfl, rfl, rfl, rfl, rfl, rfl, le_rfl⟩

theorem changes_postToStation {s : State} {i : SlotId} (h : (s.slot i).state = .claimed)
    (hp : postRefusal (s.slot i) s.freeList.length = none) : Changes E s (s.postToStation i) := by
  have hatOnce : ∀ o, o = Ending.noStation ∨ o = .stationFault → Changes E s
      ((((s.modSlot i fun x => x.startProgress).complete i { outcome := o }).announceSince s).answer .done) :=
    fun o ho => Relation.ReflTransGen.head (.completeAtOnce s i o ho h)
      ((sameTables_announceSince _ s).changes.trans (sameTables_answer _ _).changes)
  have hqueued : Changes E s ((s.enqueueSlot i).answer .done).dispatch :=
    changes_answer_dispatch _ (.single (.enqueue s i h hp))
  unfold State.postToStation
  dsimp only
  split
  case h_2 => exact hatOnce _ (.inl rfl)
  case h_3 => exact hatOnce _ (.inr rfl)
  case h_4 | h_5 | h_6 => exact hqueued
  all_goals exact (sameTables_answer s _).changes

theorem changes_execPost {s t : State} {op : Byte} (h : execPost op s = .next t) : Changes E s t := by
  cases h
  refine changes_withSlot fun i => ?_
  split
  · rename_i hs
    split
    · exact (sameTables_answer s _).changes
    · rename_i hp
      exact changes_postToStation hs hp
  · exact (sameTables_answer s _).changes

theorem changes_execDrop {s t : State} {op : Byte} (h : execDrop op s = .next t) : Changes E s t := by
  cases h
  refine changes_withSlot fun i => ?_
  split
  · rename_i hs
    exact Relation.ReflTransGen.head (.free s i (.inl hs)) (sameTables_answer _ _).changes
  · exact (sameTables_answer s _).changes

theorem changes_execRelease {s t : State} {op : Byte} (h : execRelease op s = .next t) : Changes E s t := by
  cases h
  refine changes_withSlot fun i => ?_
  split
  · rename_i hs
    exact Relation.ReflTransGen.head (.free s i (.inr hs)) (sameTables_answer _ _).changes
  · exact (sameTables_answer s _).changes

theorem changes_execCancel {s t : State} {op : Byte} (h : execCancel op s = .next t) : Changes E s t := by
  cases h
  refine changes_withSlot fun i => ?_
  split
  · exact changes_answer_dispatch _ ((changes_takeStop s i _).trans (sameTables_announceSince _ s).changes)
  · exact (sameTables_answer s _).changes

theorem changes_execPop {s t : State} (h : execPop s = .next t) : Changes E s t := by
  unfold execPop at h
  split at h
  · cases h
    exact (sameTables_answer s _).changes
  · rename_i head rest hq
    cases h
    exact Relation.ReflTransGen.head (.pop s head rest hq)
      (SameTables.changes ⟨rfl, rfl, rfl, rfl, rfl, rfl, rfl, le_rfl⟩)

theorem changes_execEnableStation {s t : State} {op : Byte} (h : execEnableStation op s = .next t) :
    Changes E s t := by
  cases h
  refine changes_withStation fun st => ?_
  have henabled : Changes E s ((s.modStation st fun r => r.enable).answer .done).dispatch :=
    changes_answer_dispatch _ (sameTables_modStation s st _).changes
  dsimp only
  split
  case h_1 | h_2 | h_3 => exact henabled
  all_goals exact (sameTables_answer s _).changes

theorem changes_execDisableStation {s t : State} {op : Byte}
    (hE : E → ∀ st : StationId, s.engagedFits st) (h : execDisableStation op s = .next t) : Changes E s t := by
  cases h
  refine changes_withStation fun st => ?_
  have hatOnce : Changes E s ((s.disableAtOnce st).announceSince s) :=
    (changes_disableAtOnce s st).trans (sameTables_announceSince _ s).changes
  have hengaged : E → ∀ i : SlotId, (s.station st).engaged = some i → (s.slot i).state ≠ .claimed := by
    intro he i hi hc
    obtain ⟨hstate, -⟩ := hE he st i hi
    simp [hc] at hstate
  dsimp only
  split
  case h_1 => exact changes_answer_dispatch _ (hatOnce.trans (sameTables_enterRunningIfProbed _).changes)
  case h_2 | h_3 => exact changes_answer_dispatch _ hatOnce
  case h_4 =>
    exact changes_answer_dispatch _
      ((changes_startWithdrawal hengaged).trans (sameTables_announceSince _ s).changes)
  all_goals exact (sameTables_answer s _).changes

theorem changes_enterStarting (s : State) : Changes E s s.enterStarting := by
  refine .trans (SameTables.changes ?_) (sameTables_enterRunningIfProbed _).changes
  exact ⟨rfl, rfl, rfl, rfl, rfl, rfl, rfl, le_rfl⟩

theorem changes_execLinkStart {s t : State} (h : execLinkStart s = .next t) : Changes E s t := by
  unfold execLinkStart at h
  split at h <;> cases h
  · exact changes_answer_dispatch _ (changes_enterStarting s)
  · exact (sameTables_answer s _).changes

theorem changes_execLinkResume {s t : State} (h : execLinkResume s = .next t) : Changes E s t := by
  unfold execLinkResume at h
  split at h <;> cases h
  · exact changes_answer_dispatch _ (changes_enterStarting s)
  · exact (sameTables_answer s _).changes

theorem changes_stopLink (s : State) : Changes E s s.stopLink := by
  unfold State.stopLink
  split
  · exact (changes_linkStopped s).trans (sameTables_announceSince _ s).changes
  · exact SameTables.changes ⟨rfl, rfl, rfl, rfl, rfl, rfl, rfl, le_rfl⟩

theorem changes_execLinkStop {s t : State} (h : execLinkStop s = .next t) : Changes E s t := by
  unfold execLinkStop at h
  split at h <;> cases h
  case h_1 | h_2 => exact (changes_stopLink s).trans (sameTables_answer _ _).changes
  case h_3 =>
    exact (changes_linkStopped s).trans ((sameTables_announceSince _ s).trans (sameTables_answer _ _)).changes
  all_goals exact (sameTables_answer s _).changes

theorem changes_execLineFaultAsserted {s t : State} (h : execLineFaultAsserted s = .next t) : Changes E s t := by
  have hfault : SameTables s { s with lineFault := true } := ⟨rfl, rfl, rfl, rfl, rfl, rfl, rfl, le_rfl⟩
  unfold execLineFaultAsserted at h
  split at h <;> cases h
  · exact hfault.changes.trans ((changes_linkLoss _).trans (sameTables_announceSince _ s).changes)
  · exact hfault.changes

theorem changes_execDescriptorWrite {s t : State} {reg : DescReg} {data : Word}
    (h : execDescriptorWrite reg data s = .next t) : Changes E s t := by
  unfold execDescriptorWrite at h
  split at h <;> cases h
  · rename_i hs
    refine changes_modSlot s s.selected (f := fun x => { x with desc := x.desc.writeReg reg data })
      (.describe _ hs (.inl ?_))
    cases reg <;> rfl
  · exact (sameTables_flagStatus s _).changes

theorem changes_setFillError (s : State) (i : SlotId) :
    Changes E s ((s.modSlot i fun x => { x with fillError := true }).flagStatus .fillError) :=
  (changes_modSlot s i (f := fun x => { x with fillError := true }) (.aside _ _ _ _ _ _ _ _ _ _)).trans
    (sameTables_flagStatus _ _).changes

theorem changes_execLengthWrite {s t : State} {data : Word} (h : execLengthWrite data s = .next t) :
    Changes E s t := by
  unfold execLengthWrite at h
  split at h
  · rename_i hs
    split at h <;> cases h
    · rename_i hc
      exact changes_modSlot s s.selected (f := fun x => { x with desc := x.desc.writeLength data })
        (.describe _ hs (.inr hc))
    · exact changes_setFillError s _
  · cases h
    exact (sameTables_flagStatus s _).changes

theorem changes_execDataWindowWrite {s t : State} {data : Word} (h : execDataWindowWrite data s = .next t) :
    Changes E s t := by
  unfold execDataWindowWrite at h
  dsimp only at h
  split at h
  · rename_i hs
    split at h <;> cases h
    · exact changes_setFillError s _
    · rename_i hd
      exact .single (.fill s s.selected data hs.1 hs.2 (Bool.eq_false_iff.mpr hd))
  · cases h
    exact (sameTables_flagStatus s _).changes

theorem changes_execDataWindowRead {s t : State} (h : execDataWindowRead s = .next t) : Changes E s t := by
  have hread : SameTables s { s with readData := s.dwinWord } := ⟨rfl, rfl, rfl, rfl, rfl, rfl, rfl, le_rfl⟩
  unfold execDataWindowRead at h
  dsimp only at h
  split at h <;> cases h
  · exact hread.changes.trans (changes_setCursor _ s.selected fun x => x.readCursor + 4)
  · exact hread.changes

theorem changes_execInterFrameGapEnd {s t : State} (h : execInterFrameGapEnd s = .next t) : Changes E s t := by
  unfold execInterFrameGapEnd at h
  split at h <;> cases h
  · refine .trans (SameTables.changes ?_) (changes_dispatch _)
    exact ⟨rfl, rfl, rfl, rfl, rfl, rfl, rfl, le_rfl⟩
  · exact .refl

theorem changes_execFrameSent {s t : State} (h : execFrameSent s = .next t) : Changes E s t := by
  unfold execFrameSent at h
  split at h
  · split at h <;> cases h
    · exact SameTables.changes ⟨rfl, rfl, rfl, rfl, rfl, rfl, rfl, le_rfl⟩
    · exact .refl
  · cases h
    exact .refl

theorem changes_execReplyBegins {s t : State} (h : execReplyBegins s = .next t) : Changes E s t := by
  unfold execReplyBegins at h
  split at h
  · cases h
    exact (sameTables_startByte s).changes
  · split at h <;> cases h
    · exact .refl
    · exact SameTables.changes ⟨rfl, rfl, rfl, rfl, rfl, rfl, rfl, le_rfl⟩
    · exact (sameTables_startByte s).changes

theorem changes_execReplyTimeout {s t : State} (h : execReplyTimeout s = .next t) : Changes E s t := by
  unfold execReplyTimeout at h
  split at h
  · split at h <;> cases h
    · exact (changes_report _ (s.outcomeFits_failed _ (by simp))).trans (changes_dispatch _)
    · exact .refl
  · cases h
    exact .refl

theorem changes_execLateReply {s t : State} (h : execLateReply s = .next t) : Changes E s t := by
  have hlate : SameTables s s.countLate := ⟨rfl, rfl, rfl, rfl, rfl, rfl, rfl, le_rfl⟩
  unfold execLateReply at h
  split at h
  · cases h
    exact hlate.changes
  · split at h <;> cases h
    · exact hlate.changes
    · exact .refl

theorem changes_execGive {s t : State} {payload : List Byte} (h : execGive payload s = .next t) :
    Changes E s t := by
  unfold execGive at h
  split at h <;> cases h
  · rename_i hs
    refine changes_takeReply fun p hp => ?_
    cases hp
    exact hs
  · exact changes_takeReceived fun f => s.outcomeFits_failed f (by simp)

theorem changes_execHoldoffExpiry {s t : State} (h : execHoldoffExpiry s = .next t) : Changes E s t := by
  unfold execHoldoffExpiry at h
  split at h
  · split at h <;> cases h
    · exact SameTables.changes ⟨rfl, rfl, rfl, rfl, rfl, rfl, rfl, Nat.zero_le _⟩
    · exact SameTables.changes ⟨rfl, rfl, rfl, rfl, rfl, rfl, rfl, le_rfl⟩
  · cases h
    exact .refl

theorem changes_execBackoffExpiry {s t : State} {a : BitVec 4} (h : execBackoffExpiry a s = .next t) :
    Changes E s t := by
  unfold execBackoffExpiry at h
  split at h
  · split at h <;> cases h
    · exact (sameTables_modStation s _ _).changes.trans (changes_dispatch _)
    · exact .refl
  · cases h

theorem changes_execPollTimerExpiry {s t : State} {a : BitVec 4} (h : execPollTimerExpiry a s = .next t) :
    Changes E s t := by
  unfold execPollTimerExpiry at h
  split at h
  · split at h <;> cases h
    · exact (sameTables_modStation s _ _).changes.trans (changes_dispatch _)
    · exact .refl
  · cases h

theorem changes_execLifetimeExpiry {s t : State} {i : SlotId} (h : execLifetimeExpiry i s = .next t) :
    Changes E s t := by
  have hstop : Changes E s (s.modSlot i fun x => { x with lifetimeTimer := none }) :=
    changes_modSlot s i (.aside _ _ _ _ _ _ _ _ _ _)
  unfold execLifetimeExpiry at h
  dsimp only at h
  split at h
  · split at h <;> cases h
    · exact hstop.trans ((changes_takeStop _ i _).trans
        ((sameTables_announceSince _ s).changes.trans (changes_dispatch _)))
    · exact hstop
  · cases h
    exact .refl

/-- Every command is a run of changes of the tables; under `E` the engaged slots are engaged as R64 says. -/
theorem changes_exec {s t : State} (c : Instr) (hE : E → ∀ st : StationId, s.engagedFits st)
    (h : exec c s = .next t) : Changes E s t := by
  have hnot : ∀ {r : Reply}, (∀ p, r ≠ .give p) → Changes E s (s.takeReply r) := fun hr =>
    changes_takeReply fun p hp => absurd hp (hr p)
  cases c with
  | powerOnReset => cases h; exact .single (.reset ⟨rfl, rfl, rfl, rfl, rfl, rfl, rfl, le_rfl⟩)
  | softReset => cases h; exact .single (.reset ⟨rfl, rfl, rfl, rfl, rfl, rfl, rfl, le_rfl⟩)
  | claim => exact changes_execClaim h
  | select op => exact changes_execSelect h
  | post op => exact changes_execPost h
  | drop op => exact changes_execDrop h
  | cancel op => exact changes_execCancel h
  | pop => exact changes_execPop h
  | release op => exact changes_execRelease h
  | enableStation op => exact changes_execEnableStation h
  | disableStation op => exact changes_execDisableStation hE h
  | linkStart => exact changes_execLinkStart h
  | linkStop => exact changes_execLinkStop h
  | linkResume => exact changes_execLinkResume h
  | snapshot | snapshotClear | maskWrite _ | cfg0Write _ | lineFaultNegated | causeWrite _ =>
    cases h
    exact SameTables.changes ⟨rfl, rfl, rfl, rfl, rfl, rfl, rfl, le_rfl⟩
  | cfg1Write data =>
    cases h
    refine .trans (SameTables.changes ?_) (sameTables_thresholdWritten _).changes
    exact ⟨rfl, rfl, rfl, rfl, rfl, rfl, rfl, le_rfl⟩
  | unknownCommand code =>
    simp only [exec, execUnknownCommand] at h
    split at h <;> cases h
    exact (sameTables_answer s _).changes
  | ignoredWrite w d =>
    simp only [exec, execIgnoredWrite] at h
    split at h <;> cases h
    exact .refl
  | descriptorWrite reg data => exact changes_execDescriptorWrite h
  | lengthWrite data => exact changes_execLengthWrite h
  | dataWindowWrite data => exact changes_execDataWindowWrite h
  | dataWindowRead => exact changes_execDataWindowRead h
  | lineFaultAsserted => exact changes_execLineFaultAsserted h
  | interFrameGapEnd => exact changes_execInterFrameGapEnd h
  | frameSent => exact changes_execFrameSent h
  | replyTimeout => exact changes_execReplyTimeout h
  | lateReply => exact changes_execLateReply h
  | garbledReply | violationReply =>
    cases h
    exact changes_takeReceived fun f => s.outcomeFits_failed f (by simp)
  | give payload => exact changes_execGive h
  | present _ | accept | refuse _ | taken | result _ | wait | park | nothing | ready _ | done =>
    cases h
    exact hnot (by simp)
  | holdoffExpiry => exact changes_execHoldoffExpiry h
  | backoffExpiry a => exact changes_execBackoffExpiry h
  | pollTimerExpiry a => exact changes_execPollTimerExpiry h
  | lifetimeExpiry i => exact changes_execLifetimeExpiry h
  | replyBegins => exact changes_execReplyBegins h

end

/-- A step with no command waiting, or the command at the front on the state with the rest of the queue. -/
theorem step_cases {s t : State} (h : step s = .next t) :
    (s.pending = [] ∧ t = s.firstByteReceived) ∨
    ∃ c rest, s.pending = c :: rest ∧ exec c { s with pending := rest } = .next t := by
  unfold step at h
  split at h
  · rename_i hp
    cases h
    exact .inl ⟨hp, rfl⟩
  · rename_i c rest hp
    exact .inr ⟨c, rest, hp, h⟩

/-- Every step is a run of changes of the tables; under the engagements of R64 every slot that completes has been posted. -/
theorem step_changes {s t : State} (h : step s = .next t) : Changes (∀ st : StationId, s.engagedFits st) s t := by
  rcases step_cases h with ⟨-, rfl⟩ | ⟨c, rest, -, hexec⟩
  · exact (sameTables_firstByteReceived s).changes
  · have hsame : SameTables s { s with pending := rest } := ⟨rfl, rfl, rfl, rfl, rfl, rfl, rfl, le_rfl⟩
    exact hsame.changes.trans (changes_exec c (fun he => he) hexec)

end Sys2Proof.Machine

/-! The invariants of the tables that every kind of change keeps by itself: the pool, its memory, the dispatch lists, the records
of the queue, their numbers and their station statuses (R17, R26, R157 to R159, R163). -/

namespace Sys2Proof.Machine

/-! ## The records that the changes leave -/

/-- The record of a slot that has completed: its result is written and the blocks that hold nothing have left its chain. -/
def Slot.completed (x : Slot) (r : Result) : Slot := { x.close r with chain := x.chain.take x.keptBlocks }

theorem State.slot_complete {s : State} {i : SlotId} {r : Result} (h : (s.slot i).state.canComplete = true)
    (j : SlotId) : (s.complete i r).slot j = if j = i then (s.slot i).completed r else s.slot j := by
  rw [← State.slot_setSlot, State.complete_eq h]
  rfl

/-- Only a slot that stands CLAIMED or posted and unfinished completes. -/
theorem SlotState.canComplete_iff (st : SlotState) :
    st.canComplete = true ↔ st.isActive = true ∨ st = .claimed := by
  simp [SlotState.canComplete]

/-- A check that gives no refusal does not hold, and the later checks give none. -/
theorem ite_some_eq_none {α : Type} {c : Prop} [Decidable c] {a : α} {o : Option α} :
    (if c then some a else o) = none ↔ ¬ c ∧ o = none := by
  split <;> simp_all

/-- The checks of R14 refuse no slot that they do not let through. -/
theorem Slot.passesPost_of_postRefusal {x : Slot} {free : Nat} (h : postRefusal x free = none) :
    x.passesPost free := by
  have hs : x.desc.stationId ≠ none := by
    intro hn
    simp [postRefusal, hn] at h
  obtain ⟨hlo, hhi⟩ := x.desc.stationId_isSome.mp hs
  refine ⟨hlo, hhi, ?_⟩
  simp only [postRefusal, hs, if_false] at h
  cases hk : x.desc.kind <;> simp only [hk] at h ⊢
  case noKind => cases h
  case store =>
    simp only [ite_some_eq_none, Bool.not_eq_true', Bool.not_eq_false, Bool.and_eq_true, decide_eq_true_eq] at h
    obtain ⟨⟨hlow, hhigh⟩, herror, hfill, -⟩ := h
    exact ⟨hlow, hhigh, Bool.eq_false_iff.mpr herror, not_lt.mp hfill⟩
  case fetch =>
    simp only [ite_some_eq_none, Bool.not_eq_true', Bool.not_eq_false, Bool.and_eq_true, decide_eq_true_eq] at h
    obtain ⟨⟨⟨hlow, hhigh⟩, hfill⟩, hroom, -⟩ := h
    refine ⟨hlow, hhigh, hfill, ?_⟩
    simpa [Slot.reservation, hk, blocksFor, roundUpDiv, Config.blockBytes, Slot.len] using hroom
  case control =>
    split at h
    next hboth => exact hboth
    next => cases h

theorem Slot.reservation_le_of_postRefusal {x : Slot} {free : Nat} (h : postRefusal x free = none) :
    x.reservation ≤ free := by
  rw [Slot.reservation_eq_blocksTaken]
  exact Slot.blocksTaken_le_of_passesPost (Slot.passesPost_of_postRefusal h)

/-- The record of a slot whose POST queues it, with the blocks of its reservation. -/
def State.queuedSlot (s : State) (i : SlotId) : Slot :=
  { (s.slot i).enqueue with chain := (s.slot i).chain ++ s.freeList.take (s.slot i).reservation }

theorem State.slot_enqueueSlot {s : State} {i : SlotId} (h : (s.slot i).reservation ≤ s.freeList.length)
    (j : SlotId) : (s.enqueueSlot i).slot j = if j = i then s.queuedSlot i else s.slot j := by
  rw [← State.slot_setSlot, State.enqueueSlot_eq h]
  rfl

theorem State.slot_freeSlot (s : State) (i j : SlotId) :
    (s.freeSlot i).slot j = if j = i then Slot.empty else s.slot j := by
  rw [← State.slot_setSlot, State.freeSlot_eq]
  rfl

/-- A filling write that is not dropped finds the block it needs. -/
theorem Slot.fillBlocks_le_of_not_dropped {x : Slot} {free : List BlockId} (h : fillDropped x free = false) :
    x.fillBlocks ≤ free.length := by
  refine Slot.fillBlocks_le fun hc he => ?_
  rw [Bool.eq_false_iff] at h
  exact h ((fillDropped_iff x free).mpr (.inr (.inr ⟨hc, he⟩)))

theorem State.slot_storeFill {s : State} {i : SlotId} (h : (s.slot i).fillBlocks ≤ s.freeList.length) (data : Word)
    (j : SlotId) : (s.storeFill i data).slot j =
      if j = i then { s.slot i with chain := s.fillChain i, fillCursor := (s.slot i).fillCursor + 4 } else s.slot j := by
  rw [← State.slot_setSlot, State.storeFill_eq h]
  rfl

theorem State.slot_popHead (s : State) (head : Record) (rest : List Record) (j : SlotId) :
    (s.popHead head rest).slot j = if j = head.slot then
      { s.slot head.slot with
        state := if (s.slot head.slot).state = .complete then .settled else (s.slot head.slot).state }
    else s.slot j := by
  rw [← State.slot_setSlot]
  rfl

@[simp] theorem State.slot_reset (i : SlotId) : State.reset.slot i = Slot.empty := by
  simp [State.slot, State.reset]

/-! ## The pool (R26) -/

/-- How often a block stands in the free list and on the chains together. -/
def State.blockCount (s : State) (b : BlockId) : Nat := s.freeList.count b + ∑ i, (s.slot i).chain.count b

theorem State.poolConserved_iff (s : State) : s.poolConserved ↔ ∀ b, s.blockCount b = 1 := by
  have hone : ∀ b, initialFreeList.count b = 1 := fun b =>
    List.count_eq_one_of_mem (List.nodup_finRange 128) (List.mem_finRange b)
  have hsum : ∀ b, (s.freeList ++ s.chainBlocks).count b = s.blockCount b := fun b => by
    simp [State.blockCount, State.chainBlocks, slotOrder, List.count_flatMap, Fin.sum_univ_def, Function.comp_def]
  simp only [State.poolConserved, List.perm_iff_count, hone, hsum]

/-- Blocks that move between the free list and one chain leave every count as it is. -/
theorem State.blockCount_congr {s t : State} (i : SlotId) (hne : ∀ j, j ≠ i → (t.slot j).chain = (s.slot j).chain)
    {b : BlockId} (hi : t.freeList.count b + (t.slot i).chain.count b =
      s.freeList.count b + (s.slot i).chain.count b) : t.blockCount b = s.blockCount b := by
  have hrest : ∑ j ∈ Finset.univ.erase i, (t.slot j).chain.count b =
      ∑ j ∈ Finset.univ.erase i, (s.slot j).chain.count b :=
    Finset.sum_congr rfl fun j hj => by rw [hne j (Finset.ne_of_mem_erase hj)]
  have ht := Finset.add_sum_erase Finset.univ (fun j => (t.slot j).chain.count b) (Finset.mem_univ i)
  have hs := Finset.add_sum_erase Finset.univ (fun j => (s.slot j).chain.count b) (Finset.mem_univ i)
  simp only [State.blockCount] at *
  omega

theorem Slot.Edit.chain_eq {x y : Slot} (h : x.Edit y) : y.chain = x.chain := by cases h <;> rfl

/-- A count over a list that is cut in two. -/
theorem count_take_add_count_drop (l : List BlockId) (n : Nat) (b : BlockId) :
    (l.take n).count b + (l.drop n).count b = l.count b := by
  rw [← List.count_append, List.take_append_drop]

theorem State.blockCount_complete (s : State) (i : SlotId) (r : Result) (b : BlockId) :
    (s.complete i r).blockCount b = s.blockCount b := by
  cases hc : (s.slot i).state.canComplete with
  | false => rw [State.complete_other hc]
  | true =>
    refine State.blockCount_congr i (fun j hj => by rw [State.slot_complete hc, if_neg hj]) ?_
    have hcut := count_take_add_count_drop (s.slot i).chain (s.slot i).keptBlocks b
    rw [State.slot_complete hc, if_pos rfl, State.complete_eq hc]
    simp only [Slot.completed, List.count_append]
    omega

/-- Every change keeps every block's count. -/
theorem Change.keeps_poolConserved {E : Prop} {s t : State} (h : Change E s t) (hs : s.poolConserved) :
    t.poolConserved := by
  rw [State.poolConserved_iff] at hs ⊢
  intro b
  rw [← hs b]
  cases h with
  | aside h => exact State.blockCount_congr 0 (fun j _ => by rw [h.slot]) (by rw [h.slot, h.freeList])
  | store chain off bytes => rfl
  | edit i h =>
    refine State.blockCount_congr i (fun j hj => by rw [State.slot_setSlot_ne _ _ _ _ hj]) ?_
    rw [State.slot_setSlot_self, h.chain_eq, State.setSlot_freeList]
  | complete i r _ _ => exact s.blockCount_complete i r b
  | completeAtOnce i o _ _ =>
    rw [State.blockCount_complete]
    refine State.blockCount_congr i (fun j hj => by rw [State.slot_modSlot_ne _ _ _ _ hj]) ?_
    rw [State.slot_modSlot_self]
    rfl
  | enqueue i _ hp =>
    have hroom := Slot.reservation_le_of_postRefusal hp
    refine State.blockCount_congr i (fun j hj => by rw [State.slot_enqueueSlot hroom, if_neg hj]) ?_
    have hcut := count_take_add_count_drop s.freeList (s.slot i).reservation b
    rw [State.slot_enqueueSlot hroom, if_pos rfl, State.enqueueSlot_eq hroom]
    simp only [State.queuedSlot, List.count_append]
    omega
  | free i _ =>
    refine State.blockCount_congr i (fun j hj => by rw [State.slot_freeSlot, if_neg hj]) ?_
    rw [State.slot_freeSlot, if_pos rfl, State.freeSlot_eq]
    simp [Slot.empty]
  | fill i data _ _ hd =>
    have hroom := Slot.fillBlocks_le_of_not_dropped hd
    refine State.blockCount_congr i (fun j hj => by rw [State.slot_storeFill hroom, if_neg hj]) ?_
    have hcut := count_take_add_count_drop s.freeList (s.slot i).fillBlocks b
    rw [State.slot_storeFill hroom, if_pos rfl, State.storeFill_eq hroom]
    simp only [State.fillChain, List.count_append]
    omega
  | pop head rest _ =>
    refine State.blockCount_congr head.slot (fun j hj => by rw [State.slot_popHead, if_neg hj]) ?_
    rw [State.slot_popHead, if_pos rfl]
    rfl
  | reset h =>
    have hreset : State.reset.blockCount b = 1 := by
      have hfree : State.reset.freeList.count b = 1 :=
        List.count_eq_one_of_mem (List.nodup_finRange 128) (List.mem_finRange b)
      simp [State.blockCount, hfree, Slot.empty]
    rw [hs b, ← hreset]
    exact State.blockCount_congr 0 (fun j _ => by rw [h.slot]) (by rw [h.slot, h.freeList])

theorem State.complete_mem (s : State) (i : SlotId) (r : Result) : (s.complete i r).mem = s.mem := by
  cases hc : (s.slot i).state.canComplete with
  | false => rw [State.complete_other hc]
  | true => rw [State.complete_eq hc]

/-- Every change keeps the memory in its canonical form. -/
theorem Change.keeps_memoryCanonical {E : Prop} {s t : State} (h : Change E s t) (hs : s.memoryCanonical) :
    t.memoryCanonical := by
  show t.mem.wf
  cases h with
  | aside h => exact h.mem ▸ hs
  | store chain off bytes => exact wf_chainPutAll hs chain off bytes
  | edit i _ => exact hs
  | complete i r _ _ => exact (s.complete_mem i r).symm ▸ hs
  | completeAtOnce i o _ _ => exact (State.complete_mem _ i _).symm ▸ hs
  | enqueue i _ hp =>
    rw [State.enqueueSlot_eq (Slot.reservation_le_of_postRefusal hp)]
    exact Memory.wf_foldl_clearBlock hs _
  | free i _ => exact hs
  | fill i data _ _ hd =>
    rw [State.storeFill_eq (Slot.fillBlocks_le_of_not_dropped hd)]
    exact wf_chainPutAll (Memory.wf_foldl_clearBlock hs _) _ _ _
  | pop head rest _ => exact hs
  | reset h => exact h.mem ▸ reset_mem_wf

/-- Settles O53: every kind of change keeps the pool, and a step is a run of changes. -/
theorem stepConservesThePool : Obligations.StepConservesThePool := fun _ _ h =>
  ⟨(step_changes h).preserves fun _ _ => Change.keeps_poolConserved,
    (step_changes h).preserves fun _ _ => Change.keeps_memoryCanonical⟩

/-! ## The dispatch lists (R17) -/

/-- An edit leaves a slot in the list it stands in. -/
theorem Slot.Edit.listCount_eq {x y : Slot} (h : x.Edit y) (c : Cls) : y.listCount c = x.listCount c := by
  cases h with
  | aside => rfl
  | claim h => simp [Slot.listCount, h, SlotState.isActive]
  | describe d h _ => simp [Slot.listCount, h, SlotState.isActive]
  | accept h => simp [Slot.listCount, h, SlotState.isActive]
  | taken h _ _ => rfl
  | give p h _ _ _ _ => rfl
  | park h => simp [Slot.listCount, h, SlotState.isActive]
  | resume h => simp [Slot.listCount, h, SlotState.isActive]
  | retry h _ => rfl
  | abort o _ h =>
    have hactive : x.state.isActive = true := by
      cases hs : x.state <;> simp [hs, SlotState.canStop] at h <;> rfl
    have hactive' : (x.toAborting o).state.isActive = true := rfl
    simp only [Slot.listCount, hactive, hactive']
    rfl

/-- Between two states that differ in one slot, whose places in the lists change with its record. -/
theorem State.listsMatch_congr {s t : State} (i : SlotId) (hs : s.listsMatch) (hslot : ∀ j, j ≠ i → t.slot j = s.slot j)
    (hu : ∀ j, j ≠ i → t.urgent.count j = s.urgent.count j) (hn : ∀ j, j ≠ i → t.normal.count j = s.normal.count j)
    (hi : t.urgent.count i = (t.slot i).listCount .urgent ∧ t.normal.count i = (t.slot i).listCount .normal) :
    t.listsMatch := by
  intro j
  by_cases hj : j = i
  · exact hj ▸ hi
  · rw [hslot j hj, hu j hj, hn j hj]
    exact hs j

theorem Slot.listCount_le (x : Slot) (c : Cls) : x.listCount c ≤ 1 := by
  unfold Slot.listCount
  split <;> omega

/-- A slot outside QUEUED, OPEN, PARKED and ABORTING stands in no list. -/
theorem Slot.listCount_of_inactive {x : Slot} (h : x.state.isActive = false) (c : Cls) : x.listCount c = 0 := by
  simp [Slot.listCount, h]

theorem State.listsMatch_complete {s : State} (i : SlotId) (r : Result) (hs : s.listsMatch) :
    (s.complete i r).listsMatch := by
  cases hc : (s.slot i).state.canComplete with
  | false => rwa [State.complete_other hc]
  | true =>
    obtain ⟨hu, hn⟩ := hs i
    have hul := (s.slot i).listCount_le .urgent
    have hnl := (s.slot i).listCount_le .normal
    have hui : (s.complete i r).urgent = s.urgent.erase i := by rw [State.complete_eq hc]
    have hni : (s.complete i r).normal = s.normal.erase i := by rw [State.complete_eq hc]
    refine State.listsMatch_congr i hs (fun j hj => by rw [State.slot_complete hc, if_neg hj])
      (fun j hj => by rw [hui, List.count_erase_of_ne hj]) (fun j hj => by rw [hni, List.count_erase_of_ne hj]) ?_
    rw [hui, hni, List.count_erase_self, List.count_erase_self, State.slot_complete hc, if_pos rfl,
      Slot.listCount_of_inactive rfl, Slot.listCount_of_inactive rfl]
    omega

/-- Every change keeps the dispatch lists matching the slot states. -/
theorem Change.keeps_listsMatch {E : Prop} {s t : State} (h : Change E s t) (hs : s.listsMatch) : t.listsMatch := by
  cases h with
  | aside h =>
    intro j
    rw [h.urgent, h.normal, h.slot]
    exact hs j
  | store chain off bytes => exact hs
  | edit i h =>
    refine State.listsMatch_congr i hs (fun j hj => State.slot_setSlot_ne _ _ _ _ hj) (fun _ _ => rfl)
      (fun _ _ => rfl) ?_
    rw [State.slot_setSlot_self, h.listCount_eq, h.listCount_eq]
    exact hs i
  | complete i r _ _ => exact State.listsMatch_complete i r hs
  | completeAtOnce i o _ h =>
    refine State.listsMatch_complete i _ (State.listsMatch_congr i hs (fun j hj => State.slot_modSlot_ne _ _ _ _ hj)
      (fun _ _ => rfl) (fun _ _ => rfl) ?_)
    rw [State.slot_modSlot_self]
    exact hs i
  | enqueue i h hp =>
    have hroom := Slot.reservation_le_of_postRefusal hp
    have hinactive : (s.slot i).state.isActive = false := by rw [h]; rfl
    obtain ⟨hu, hn⟩ := hs i
    rw [Slot.listCount_of_inactive hinactive] at hu hn
    refine State.listsMatch_congr i hs (fun j hj => by rw [State.slot_enqueueSlot hroom, if_neg hj]) ?_ ?_ ?_
    · intro j hj
      rw [State.enqueueSlot_eq hroom]
      dsimp only
      split <;> simp [List.count_append, Ne.symm hj]
    · intro j hj
      rw [State.enqueueSlot_eq hroom]
      dsimp only
      split <;> simp [List.count_append, Ne.symm hj]
    · rw [State.slot_enqueueSlot hroom, if_pos rfl, State.enqueueSlot_eq hroom]
      cases hcls : (s.slot i).desc.cls <;>
        simp [Slot.listCount, State.queuedSlot, Slot.enqueue, Slot.startProgress, SlotState.isActive, hcls, hu, hn]
  | free i h =>
    have hinactive : (s.slot i).state.isActive = false := by rcases h with h | h <;> rw [h] <;> rfl
    obtain ⟨hu, hn⟩ := hs i
    rw [Slot.listCount_of_inactive hinactive] at hu hn
    refine State.listsMatch_congr i hs (fun j hj => by rw [State.slot_freeSlot, if_neg hj]) (fun _ _ => rfl)
      (fun _ _ => rfl) ?_
    rw [State.slot_freeSlot, if_pos rfl]
    exact ⟨hu, hn⟩
  | fill i data h _ hd =>
    have hroom := Slot.fillBlocks_le_of_not_dropped hd
    have hu : (s.storeFill i data).urgent = s.urgent := by rw [State.storeFill_eq hroom]
    have hn : (s.storeFill i data).normal = s.normal := by rw [State.storeFill_eq hroom]
    refine State.listsMatch_congr i hs (fun j hj => by rw [State.slot_storeFill hroom, if_neg hj])
      (fun _ _ => by rw [hu]) (fun _ _ => by rw [hn]) ?_
    rw [hu, hn, State.slot_storeFill hroom, if_pos rfl]
    exact hs i
  | pop head rest _ =>
    refine State.listsMatch_congr head.slot hs (fun j hj => by rw [State.slot_popHead, if_neg hj]) (fun _ _ => rfl)
      (fun _ _ => rfl) ?_
    have hsame : ∀ c, ((s.popHead head rest).slot head.slot).listCount c = (s.slot head.slot).listCount c := fun c => by
      rw [State.slot_popHead, if_pos rfl]
      by_cases hc : (s.slot head.slot).state = .complete
      · simp [Slot.listCount, hc, SlotState.isActive]
      · simp only [hc, if_false]
    rw [hsame, hsame]
    exact hs head.slot
  | reset h =>
    intro j
    rw [h.urgent, h.normal, h.slot, State.slot_reset]
    exact ⟨rfl, rfl⟩

/-! ## One record for each COMPLETE slot (R157) -/

theorem Slot.Edit.recordCount_eq {x y : Slot} (h : x.Edit y) : y.recordCount = x.recordCount := by
  cases h with
  | aside => rfl
  | claim h => simp [Slot.recordCount, h]
  | describe d h _ => rfl
  | accept h => simp [Slot.recordCount, h]
  | taken h _ _ => rfl
  | give p h _ _ _ _ => rfl
  | park h => simp [Slot.recordCount, h]
  | resume h => simp [Slot.recordCount, h]
  | retry h _ => rfl
  | abort o _ h =>
    have hnot : x.state ≠ .complete := fun e => by simp [e, SlotState.canStop] at h
    simp [Slot.recordCount, Slot.toAborting, hnot]

/-- Between two states that differ in one slot, whose records in the queue change with its state. -/
theorem State.queueMatches_congr {s t : State} (i : SlotId) (hs : s.queueMatches)
    (hslot : ∀ j, j ≠ i → t.slot j = s.slot j)
    (hq : ∀ j, j ≠ i → (t.queue.map fun r => r.slot).count j = (s.queue.map fun r => r.slot).count j)
    (hi : (t.queue.map fun r => r.slot).count i = (t.slot i).recordCount) : t.queueMatches := by
  intro j
  by_cases hj : j = i
  · exact hj ▸ hi
  · rw [hslot j hj, hq j hj]
    exact hs j

theorem State.complete_queue {s : State} {i : SlotId} {r : Result} (h : (s.slot i).state.canComplete = true) :
    (s.complete i r).queue = s.queue ++ [(s.slot i).recordOf i r s.seqCounter] := by
  rw [State.complete_eq h]

theorem State.queueMatches_complete {s : State} (i : SlotId) (r : Result) (hs : s.queueMatches) :
    (s.complete i r).queueMatches := by
  cases hc : (s.slot i).state.canComplete with
  | false => rwa [State.complete_other hc]
  | true =>
    have hnot : (s.slot i).state ≠ .complete := fun e => by
      simp [e, SlotState.canComplete, SlotState.isActive] at hc
    have hzero := hs i
    rw [Slot.recordCount, if_neg hnot] at hzero
    refine State.queueMatches_congr i hs (fun j hj => by rw [State.slot_complete hc, if_neg hj]) ?_ ?_
    · intro j hj
      simp [State.complete_queue hc, Slot.recordOf, Ne.symm hj]
    · rw [State.slot_complete hc, if_pos rfl, State.complete_queue hc]
      simp [Slot.recordOf, hzero, Slot.recordCount, Slot.completed, Slot.close]

/-- Every change keeps one record in the queue for each COMPLETE slot. -/
theorem Change.keeps_queueMatches {E : Prop} {s t : State} (h : Change E s t) (hs : s.queueMatches) :
    t.queueMatches := by
  cases h with
  | aside h =>
    intro j
    rw [h.queue, h.slot]
    exact hs j
  | store chain off bytes => exact hs
  | edit i h =>
    refine State.queueMatches_congr i hs (fun j hj => State.slot_setSlot_ne _ _ _ _ hj) (fun _ _ => rfl) ?_
    rw [State.slot_setSlot_self, h.recordCount_eq]
    exact hs i
  | complete i r _ _ => exact State.queueMatches_complete i r hs
  | completeAtOnce i o _ h =>
    refine State.queueMatches_complete i _
      (State.queueMatches_congr i hs (fun j hj => State.slot_modSlot_ne _ _ _ _ hj) (fun _ _ => rfl) ?_)
    rw [State.slot_modSlot_self]
    exact hs i
  | enqueue i h hp =>
    have hroom := Slot.reservation_le_of_postRefusal hp
    have hq : (s.enqueueSlot i).queue = s.queue := by rw [State.enqueueSlot_eq hroom]
    refine State.queueMatches_congr i hs (fun j hj => by rw [State.slot_enqueueSlot hroom, if_neg hj])
      (fun _ _ => by rw [hq]) ?_
    rw [hq, hs i, State.slot_enqueueSlot hroom, if_pos rfl]
    simp [Slot.recordCount, h, State.queuedSlot, Slot.enqueue]
  | free i h =>
    refine State.queueMatches_congr i hs (fun j hj => by rw [State.slot_freeSlot, if_neg hj]) (fun _ _ => rfl) ?_
    have hq : (s.freeSlot i).queue = s.queue := rfl
    rw [hq, hs i, State.slot_freeSlot, if_pos rfl]
    rcases h with h | h <;> simp [Slot.recordCount, h, Slot.empty]
  | fill i data h _ hd =>
    have hroom := Slot.fillBlocks_le_of_not_dropped hd
    have hq : (s.storeFill i data).queue = s.queue := by rw [State.storeFill_eq hroom]
    refine State.queueMatches_congr i hs (fun j hj => by rw [State.slot_storeFill hroom, if_neg hj])
      (fun _ _ => by rw [hq]) ?_
    rw [hq, State.slot_storeFill hroom, if_pos rfl]
    exact hs i
  | pop head rest h =>
    have hq : ∀ j, (s.queue.map fun r => r.slot).count j =
        ((rest.map fun r => r.slot).count j) + if head.slot = j then 1 else 0 := fun j => by
      simp [h, List.count_cons]
    refine State.queueMatches_congr head.slot hs (fun j hj => by rw [State.slot_popHead, if_neg hj]) ?_ ?_
    · intro j hj
      rw [hq, if_neg (Ne.symm hj)]
      rfl
    · have hhead := hs head.slot
      rw [hq, if_pos rfl] at hhead
      rw [State.slot_popHead, if_pos rfl]
      show (rest.map fun r => r.slot).count head.slot = _
      by_cases hc : (s.slot head.slot).state = .complete
      · simp only [Slot.recordCount, hc, if_true] at hhead ⊢
        simpa using hhead
      · simp only [Slot.recordCount, hc, if_false] at hhead
        omega
  | reset h =>
    intro j
    rw [h.queue, h.slot, State.slot_reset]
    rfl

/-- Settles O54: every kind of change keeps the lists and the records, and a step is a run of changes. -/
theorem stepKeepsListsAndRecords : Obligations.StepKeepsListsAndRecords := fun _ _ h =>
  ⟨(step_changes h).preserves fun _ _ => Change.keeps_listsMatch,
    (step_changes h).preserves fun _ _ => Change.keeps_queueMatches⟩

/-! ## The numbers of the records (R158, R163) -/

/-- A record with the counter's number joins the tail. -/
theorem seqRunsTo_append {q : List Record} {r : Record} (h : seqRunsTo q r.seq = true) :
    seqRunsTo (q ++ [r]) (r.seq + 1) = true := by
  induction q with
  | nil => simp [seqRunsTo]
  | cons a q ih =>
    cases q with
    | nil => simpa [seqRunsTo] using h
    | cons b q =>
      simp only [seqRunsTo, Bool.and_eq_true, List.cons_append] at h ih ⊢
      exact ⟨h.1, ih h.2⟩

/-- The head record leaves. -/
theorem seqRunsTo_tail {head : Record} {rest : List Record} {next : Byte}
    (h : seqRunsTo (head :: rest) next = true) : seqRunsTo rest next = true := by
  cases rest with
  | nil => rfl
  | cons a rest =>
    simp only [seqRunsTo, Bool.and_eq_true] at h
    exact h.2

/-- The queue's numbers are consecutive and its unannounced count fits. -/
def State.queueNumbered (s : State) : Prop := s.sequenceRuns ∧ s.unannouncedFits

/-- The numbers depend on the queue, the sequence counter and the unannounced count alone. -/
theorem State.queueNumbered_congr {s t : State} (hs : s.queueNumbered) (hq : t.queue = s.queue)
    (hc : t.seqCounter = s.seqCounter) (hu : t.unannounced ≤ s.unannounced) : t.queueNumbered := by
  obtain ⟨hseq, hfit⟩ := hs
  refine ⟨?_, ?_⟩
  · show seqRunsTo t.queue t.seqCounter = true
    rw [hq, hc]
    exact hseq
  · show t.unannounced ≤ t.queue.length
    rw [hq]
    exact hu.trans hfit

theorem State.queueNumbered_complete {s : State} (i : SlotId) (r : Result) (hs : s.queueNumbered) :
    (s.complete i r).queueNumbered := by
  cases hc : (s.slot i).state.canComplete with
  | false => rwa [State.complete_other hc]
  | true =>
    obtain ⟨hseq, hfit⟩ := hs
    rw [State.complete_eq hc]
    refine ⟨seqRunsTo_append (r := (s.slot i).recordOf i r s.seqCounter) hseq, ?_⟩
    show s.unannounced + 1 ≤ (s.queue ++ [_]).length
    rw [List.length_append]
    exact Nat.succ_le_succ hfit

/-- Every change keeps the queue numbered. -/
theorem Change.keeps_queueNumbered {E : Prop} {s t : State} (h : Change E s t) (hs : s.queueNumbered) :
    t.queueNumbered := by
  cases h with
  | aside h => exact State.queueNumbered_congr hs h.queue h.seqCounter h.unannounced
  | store chain off bytes => exact hs
  | edit i _ => exact hs
  | complete i r _ _ => exact State.queueNumbered_complete i r hs
  | completeAtOnce i o _ _ => exact State.queueNumbered_complete i _ hs
  | enqueue i _ hp =>
    rw [State.enqueueSlot_eq (Slot.reservation_le_of_postRefusal hp)]
    exact hs
  | free i _ => exact hs
  | fill i data _ _ hd =>
    rw [State.storeFill_eq (Slot.fillBlocks_le_of_not_dropped hd)]
    exact hs
  | pop head rest h =>
    obtain ⟨hseq, -⟩ := hs
    rw [State.sequenceRuns, h] at hseq
    exact ⟨seqRunsTo_tail hseq, Nat.min_le_right _ _⟩
  | reset h => exact State.queueNumbered_congr ⟨rfl, le_rfl⟩ h.queue h.seqCounter h.unannounced

/-- Settles O55: every kind of change keeps the queue numbered, and a step is a run of changes. -/
theorem stepKeepsTheQueueNumbered : Obligations.StepKeepsTheQueueNumbered := fun _ _ hseq hfit h =>
  (step_changes h).preserves (fun _ _ => Change.keeps_queueNumbered) ⟨hseq, hfit⟩

/-! ## The station statuses of the records (R149, R159) -/

/-- Every record's station status is present as its outcome asks, and every pending outcome is one of R149. -/
def State.statusesFit (s : State) : Prop := s.statusesPresent ∧ s.pendingFits

theorem Slot.Edit.pendingOutcome_fits {x y : Slot} (h : x.Edit y) (hx : x.pendingOutcome.all Ending.isPending = true) :
    y.pendingOutcome.all Ending.isPending = true := by
  cases h with
  | abort o ho _ => simpa [Slot.toAborting] using ho
  | _ => exact hx

/-- Between two states that differ in one slot, with the queue as it was. -/
theorem State.statusesFit_congr {s t : State} (i : SlotId) (hs : s.statusesFit) (hq : t.queue = s.queue)
    (hslot : ∀ j, j ≠ i → t.slot j = s.slot j)
    (hi : (s.slot i).pendingOutcome.all Ending.isPending = true → (t.slot i).pendingOutcome.all Ending.isPending = true) :
    t.statusesFit := by
  obtain ⟨hstat, hpend⟩ := hs
  refine ⟨by rw [State.statusesPresent, hq]; exact hstat, fun j => ?_⟩
  by_cases hj : j = i
  · exact hj ▸ hi (hpend i)
  · rw [hslot j hj]
    exact hpend j

/-- A record of a result that suits its slot has its station status present as R159 says. -/
theorem Slot.statusPresence_recordOf {x : Slot} {r : Result} (i : SlotId) (seq : Byte) (hr : r.suits x)
    (hx : x.pendingOutcome.all Ending.isPending = true) : (x.recordOf i r seq).statusPresence = true := by
  rcases hr with hr | ⟨hp, hn⟩
  · exact decide_eq_true hr
  · rw [hp, Option.all_some] at hx
    cases ho : r.outcome <;> simp_all [Record.statusPresence, Slot.recordOf, Ending.isPending]

theorem State.statusesFit_complete {s : State} (i : SlotId) {r : Result} (hr : r.suits (s.slot i)) (hs : s.statusesFit) :
    (s.complete i r).statusesFit := by
  cases hc : (s.slot i).state.canComplete with
  | false => rwa [State.complete_other hc]
  | true =>
    obtain ⟨hstat, hpend⟩ := hs
    refine ⟨?_, fun j => ?_⟩
    · rw [State.statusesPresent, State.complete_queue hc, List.all_append, Bool.and_eq_true]
      exact ⟨hstat, by simpa using Slot.statusPresence_recordOf i s.seqCounter hr (hpend i)⟩
    · rw [State.slot_complete hc]
      split
      · rfl
      · exact hpend j

/-- Every change keeps the statuses of the records and the pending outcomes. -/
theorem Change.keeps_statusesFit {E : Prop} {s t : State} (h : Change E s t) (hs : s.statusesFit) :
    t.statusesFit := by
  cases h with
  | aside h => exact State.statusesFit_congr 0 hs h.queue (fun j _ => h.slot j) (by rw [h.slot]; exact id)
  | store chain off bytes => exact hs
  | edit i h =>
    refine State.statusesFit_congr i hs rfl (fun j hj => State.slot_setSlot_ne _ _ _ _ hj) fun hx => ?_
    rw [State.slot_setSlot_self]
    exact h.pendingOutcome_fits hx
  | complete i r hr _ => exact State.statusesFit_complete i hr hs
  | completeAtOnce i o ho _ =>
    refine State.statusesFit_complete i (.inl ?_)
      (State.statusesFit_congr i hs rfl (fun j hj => State.slot_modSlot_ne _ _ _ _ hj) fun hx => ?_)
    · rcases ho with rfl | rfl <;> rfl
    · rw [State.slot_modSlot_self]
      exact hx
  | enqueue i _ hp =>
    have hroom := Slot.reservation_le_of_postRefusal hp
    refine State.statusesFit_congr i hs (by rw [State.enqueueSlot_eq hroom])
      (fun j hj => by rw [State.slot_enqueueSlot hroom, if_neg hj]) fun hx => ?_
    rw [State.slot_enqueueSlot hroom, if_pos rfl]
    exact hx
  | free i _ =>
    refine State.statusesFit_congr i hs rfl (fun j hj => by rw [State.slot_freeSlot, if_neg hj]) fun _ => ?_
    rw [State.slot_freeSlot, if_pos rfl]
    rfl
  | fill i data _ _ hd =>
    have hroom := Slot.fillBlocks_le_of_not_dropped hd
    refine State.statusesFit_congr i hs (by rw [State.storeFill_eq hroom])
      (fun j hj => by rw [State.slot_storeFill hroom, if_neg hj]) fun hx => ?_
    rw [State.slot_storeFill hroom, if_pos rfl]
    exact hx
  | pop head rest h =>
    obtain ⟨hstat, hpend⟩ := hs
    refine ⟨?_, fun j => ?_⟩
    · rw [State.statusesPresent, h, List.all_cons, Bool.and_eq_true] at hstat
      exact hstat.2
    · rw [State.slot_popHead]
      split
      · exact hpend head.slot
      · exact hpend j
  | reset h =>
    refine ⟨by rw [State.statusesPresent, h.queue]; rfl, fun j => ?_⟩
    rw [h.slot, State.slot_reset]
    rfl

/-- Settles O56: every kind of change keeps the statuses and the pending outcomes, and a step is a run of changes. -/
theorem stepKeepsStatusPresence : Obligations.StepKeepsStatusPresence := fun _ _ hstat hpend h =>
  (step_changes h).preserves (fun _ _ => Change.keeps_statusesFit) ⟨hstat, hpend⟩

end Sys2Proof.Machine

/-! The progress fields and the chain lengths of the slots, which every change keeps when the slots that complete have been
posted (R4, R33, R34, R99, R100). -/

namespace Sys2Proof.Machine

/-! ## Progress (R4, R100) -/

/-- The length of an accepted STORE or FETCH is 1 to 512, that of a CONTROL is 0. -/
theorem Slot.lengthFits_of_passesPost {x : Slot} {free : Nat} (h : x.passesPost free) : x.lengthFits = true := by
  obtain ⟨-, -, hkind⟩ := h
  unfold Slot.lengthFits
  cases hk : x.desc.kind <;> simp only [hk] at hkind ⊢
  case store => simp [hkind.1, show x.len ≤ Config.maxLength from hkind.2.1]
  case fetch => simp [hkind.1, show x.len ≤ Config.maxLength from hkind.2.1]
  case control => simp [hkind.1]

/-- A STORE or FETCH of a length that fits holds at least one byte. -/
theorem Slot.len_pos_of_lengthFits {x : Slot} (h : x.lengthFits = true) (hk : x.desc.kind ≠ .control) : 0 < x.len := by
  unfold Slot.lengthFits at h
  cases hkind : x.desc.kind <;> simp_all <;> omega

theorem Slot.dataProgress_iff (x : Slot) : x.dataProgress = true ↔
    x.desc.kind ≠ .control ∧ x.bytesMoved = 64 * x.nextIndex ∧ x.bytesMoved < x.len ∧ x.short = false := by
  simp [Slot.dataProgress, and_assoc]

/-- What the relations of R100 say of a slot beside its state: its phase, its counts and its length. -/
def Slot.openProgress (x : Slot) : Prop :=
  (x.phase = .data → x.dataProgress = true) ∧ (x.phase = .finishing → x.finishingProgress = true)

/-- ACCEPT begins the data phase of a STORE or FETCH, and the finishing phase of a CONTROL. -/
theorem Slot.openProgress_accept {x : Slot} (hl : x.lengthFits = true) (hs : x.short = false) :
    Slot.openProgress { x with
      state := .opened, phase := if x.desc.kind = .control then .finishing else .data
      nextIndex := 0, bytesMoved := 0 } := by
  by_cases hk : x.desc.kind = .control
  · refine ⟨fun h => ?_, fun _ => ?_⟩
    · simp [hk] at h
    · simp [Slot.finishingProgress, hk, hs]
  · refine ⟨fun _ => (Slot.dataProgress_iff _).mpr ⟨hk, rfl, x.len_pos_of_lengthFits hl hk, hs⟩, fun h => ?_⟩
    simp [hk] at h

/-- A TAKEN counts a full segment, or the last one of the length. -/
theorem Slot.openProgress_taken {x : Slot} (hp : x.phase = .data) (hk : x.desc.kind = .store)
    (h : x.dataProgress = true) : x.afterTaken.openProgress ∧ x.afterTaken.bytesMoved ≤ x.len := by
  obtain ⟨-, hmoved, hlt, hshort⟩ := x.dataProgress_iff.mp h
  have hlen : x.desc.length.toNat = x.len := rfl
  have hsize : segmentSize x.desc.length.toNat x.nextIndex = min 64 (x.len - 64 * x.nextIndex) := rfl
  by_cases he : x.bytesMoved + segmentSize x.desc.length.toNat x.nextIndex = x.len
  · refine ⟨⟨fun hphase => ?_, fun _ => ?_⟩, ?_⟩
    · cases (show x.afterTaken.phase = .finishing from if_pos he).symm.trans hphase
    · have hlast : x.nextIndex + 1 = segmentsFor x.len := by
        simp only [segmentsFor, roundUpDiv, Config.segmentBytes]
        omega
      have hkAfter : x.afterTaken.desc.kind = .store := hk
      have hmovedAfter : x.afterTaken.bytesMoved = x.len := he
      have hlenAfter : x.afterTaken.len = x.len := rfl
      have hnextAfter : x.afterTaken.nextIndex = segmentsFor x.len := hlast
      have hshortAfter : x.afterTaken.short = false := hshort
      simp [Slot.finishingProgress, hkAfter, hmovedAfter, hlenAfter, hnextAfter, hshortAfter]
    · exact he.le
  · refine ⟨⟨fun _ => ?_, fun hphase => ?_⟩, ?_⟩
    · refine (Slot.dataProgress_iff _).mpr ⟨by simp [Slot.afterTaken, hk], ?_, ?_, hshort⟩
      · show x.bytesMoved + segmentSize x.desc.length.toNat x.nextIndex = 64 * (x.nextIndex + 1)
        omega
      · show x.bytesMoved + segmentSize x.desc.length.toNat x.nextIndex < x.len
        omega
    · cases ((show x.afterTaken.phase = x.phase from if_neg he).trans hp).symm.trans hphase
    · show x.bytesMoved + segmentSize x.desc.length.toNat x.nextIndex ≤ x.len
      omega

/-- A GIVE counts a full segment, or ends the data phase. -/
theorem Slot.openProgress_give {x : Slot} {p : Nat} (hp : x.phase = .data) (hk : x.desc.kind = .fetch)
    (hs : p ≤ Config.segmentBytes) (hl : p ≤ x.len - x.bytesMoved) (h : x.dataProgress = true) :
    (x.afterGive p).openProgress ∧ (x.afterGive p).bytesMoved ≤ x.len := by
  obtain ⟨-, hmoved, hlt, hshort⟩ := x.dataProgress_iff.mp h
  have hlen : x.desc.length.toNat = x.len := rfl
  have hle : (x.afterGive p).bytesMoved ≤ x.len := by
    show x.bytesMoved + p ≤ x.len
    omega
  refine ⟨?_, hle⟩
  simp only [Config.segmentBytes] at hs
  by_cases he : p < 64 ∨ x.bytesMoved + p = x.len
  · have hends : (decide (p < Config.segmentBytes) || decide (x.bytesMoved + p = x.len)) = true := by
      rw [Bool.or_eq_true, decide_eq_true_eq, decide_eq_true_eq]
      exact he
    refine ⟨fun hphase => ?_, fun _ => ?_⟩
    · cases (show (x.afterGive p).phase = .finishing from if_pos hends).symm.trans hphase
    · have hlast : x.nextIndex + 1 ≤ segmentsFor x.len := by
        simp only [segmentsFor, roundUpDiv, Config.segmentBytes]
        omega
      have hlenAfter : (x.afterGive p).len = x.len := rfl
      have hshortAfter : (x.afterGive p).short = decide (x.bytesMoved + p < x.len) := by
        simp [Slot.afterGive, hlen, hends, hshort]
      have hkAfter : (x.afterGive p).desc.kind = .fetch := hk
      have hmovedAfter : (x.afterGive p).bytesMoved = x.bytesMoved + p := rfl
      have hnextAfter : (x.afterGive p).nextIndex = x.nextIndex + 1 := rfl
      simp only [Slot.finishingProgress, hkAfter, hlenAfter, hshortAfter, hmovedAfter, hnextAfter, Bool.and_eq_true,
        decide_eq_true_eq, and_true]
      omega
  · have hends : (decide (p < Config.segmentBytes) || decide (x.bytesMoved + p = x.len)) = false := by
      rw [Bool.eq_false_iff, Ne, Bool.or_eq_true, decide_eq_true_eq, decide_eq_true_eq]
      exact he
    refine ⟨fun _ => ?_, fun hphase => ?_⟩
    · refine (Slot.dataProgress_iff _).mpr ⟨by simp [Slot.afterGive, hk], ?_, ?_, ?_⟩
      · show x.bytesMoved + p = 64 * (x.nextIndex + 1)
        omega
      · show x.bytesMoved + p < x.len
        omega
      · simp [Slot.afterGive, hlen, hends, hshort]
    · have hphaseAfter : (x.afterGive p).phase = x.phase := if_neg (Bool.eq_false_iff.mp hends)
      cases (hphaseAfter.trans hp).symm.trans hphase

theorem SlotState.isActive_of_canStop {st : SlotState} (h : st.canStop = true) : st.isActive = true := by
  cases st <;> first | rfl | cases h

theorem SlotState.isPosted_of_isActive {st : SlotState} (h : st.isActive = true) : st.isPosted = true := by
  simp [SlotState.isPosted, h]

/-- An edit keeps a slot's progress fields in their relations. -/
theorem Slot.Edit.keeps_progressFits {x y : Slot} (h : x.Edit y) (hx : x.progressFits) : y.progressFits := by
  obtain ⟨hun, hposted, hlen, hqueued, hopen⟩ := hx
  cases h with
  | aside => exact ⟨hun, hposted, hlen, hqueued, hopen⟩
  | claim h =>
    have hzero := hun (by rw [h]; rfl)
    exact ⟨fun _ => hzero, nofun, nofun, nofun, nofun⟩
  | describe d h _ =>
    have hzero := hun (by rw [h]; rfl)
    refine ⟨fun _ => hzero, ?_, ?_, ?_, ?_⟩ <;> simp [h, SlotState.isPosted, SlotState.isActive]
  | accept h =>
    obtain ⟨-, -, -, hshort⟩ := hqueued h
    obtain ⟨hsum, -⟩ := hposted (by rw [h]; rfl)
    have hfits := hlen (by rw [h]; rfl)
    exact ⟨nofun, fun _ => ⟨hsum, Nat.zero_le _⟩, fun _ => hfits, nofun,
      fun _ => Slot.openProgress_accept hfits hshort⟩
  | taken h hp hk =>
    obtain ⟨hsum, -⟩ := hposted (by rw [h]; rfl)
    obtain ⟨hprogress, hle⟩ := Slot.openProgress_taken hp hk ((hopen (.inl h)).1 hp)
    refine ⟨?_, fun _ => ⟨hsum, hle⟩, fun _ => hlen (by rw [h]; rfl), ?_, fun _ => hprogress⟩ <;>
      simp [Slot.afterTaken, h, SlotState.isPosted, SlotState.isActive]
  | give p h hp hk hs hl =>
    obtain ⟨hsum, -⟩ := hposted (by rw [h]; rfl)
    obtain ⟨hprogress, hle⟩ := Slot.openProgress_give hp hk hs hl ((hopen (.inl h)).1 hp)
    refine ⟨?_, fun _ => ⟨hsum, hle⟩, fun _ => hlen (by rw [h]; rfl), ?_, fun _ => hprogress⟩ <;>
      simp [Slot.afterGive, h, SlotState.isPosted, SlotState.isActive]
  | park h =>
    exact ⟨nofun, fun _ => hposted (by rw [h]; rfl), fun _ => hlen (by rw [h]; rfl), nofun, fun _ => hopen (.inl h)⟩
  | resume h =>
    exact ⟨nofun, fun _ => hposted (by rw [h]; rfl), fun _ => hlen (by rw [h]; rfl), nofun, fun _ => hopen (.inr h)⟩
  | retry h hs =>
    have hactive := SlotState.isActive_of_canStop hs
    obtain ⟨hsum, hle⟩ := hposted (SlotState.isPosted_of_isActive hactive)
    refine ⟨fun hn => ?_, fun _ => ⟨?_, hle⟩, hlen, hqueued, hopen⟩
    · rw [show x.retry.state = x.state from rfl, SlotState.isPosted_of_isActive hactive] at hn
      cases hn
    · show x.retriesLeft - 1 + (x.retriesUsed + 1) = x.desc.retryAllowance.toNat
      simp only [Slot.retriesSum] at hsum
      omega
  | abort o _ h =>
    have hactive := SlotState.isActive_of_canStop h
    exact ⟨nofun, fun _ => hposted (SlotState.isPosted_of_isActive hactive), fun _ => hlen hactive, nofun, nofun⟩

theorem Slot.progressFits_empty : Slot.empty.progressFits :=
  ⟨fun _ => ⟨rfl, rfl, rfl, rfl⟩, nofun, nofun, nofun, nofun⟩

/-- A posted slot keeps its counts when it completes. -/
theorem Slot.progressFits_completed {x : Slot} (r : Result) (h : x.state.isActive = true) (hx : x.progressFits) :
    (x.completed r).progressFits := by
  obtain ⟨-, hposted, -, -, -⟩ := hx
  exact ⟨nofun, fun _ => hposted (SlotState.isPosted_of_isActive h), nofun, nofun, nofun⟩

/-- A POST that completes at once sets the counts itself. -/
theorem Slot.progressFits_completedAtOnce (x : Slot) (r : Result) : (x.startProgress.completed r).progressFits :=
  ⟨nofun, fun _ => ⟨Nat.add_zero _, Nat.zero_le _⟩, nofun, nofun, nofun⟩

theorem State.progressFits_queuedSlot {s : State} {i : SlotId} (h : (s.slot i).state = .claimed)
    (hp : (s.slot i).passesPost s.freeList.length) (hx : (s.slot i).progressFits) :
    (s.queuedSlot i).progressFits := by
  obtain ⟨hun, -⟩ := hx
  obtain ⟨-, -, -, hshort⟩ := hun (by rw [h]; rfl)
  exact ⟨nofun, fun _ => ⟨Nat.add_zero _, Nat.zero_le _⟩, fun _ => Slot.lengthFits_of_passesPost hp,
    fun _ => ⟨rfl, rfl, rfl, hshort⟩, nofun⟩

/-- POP makes a COMPLETE slot SETTLED, which asks the same of its progress. -/
theorem Slot.progressFits_settled {x : Slot} (hx : x.progressFits) :
    Slot.progressFits { x with state := if x.state = .complete then .settled else x.state } := by
  by_cases hc : x.state = .complete
  · obtain ⟨-, hposted, -, -, -⟩ := hx
    simp only [hc, if_true]
    exact ⟨nofun, fun _ => hposted (by rw [hc]; rfl), nofun, nofun, nofun⟩
  · simp only [hc, if_false]
    exact hx

/-- Between two states that differ in one slot. -/
theorem State.forall_slot_congr {P : Slot → Prop} {s t : State} (i : SlotId) (hs : ∀ j, P (s.slot j))
    (hslot : ∀ j, j ≠ i → t.slot j = s.slot j) (hi : P (t.slot i)) : ∀ j, P (t.slot j) := by
  intro j
  by_cases hj : j = i
  · exact hj ▸ hi
  · exact hslot j hj ▸ hs j

/-- A completing slot that is not CLAIMED has been posted and is unfinished. -/
theorem SlotState.isActive_of_canComplete {st : SlotState} (hc : st.canComplete = true) (h : st ≠ .claimed) :
    st.isActive = true := by
  rcases (SlotState.canComplete_iff st).mp hc with ha | ha
  · exact ha
  · exact absurd ha h

/-- A completion keeps what holds of every slot when it holds of the completed record. -/
theorem State.forall_slot_complete {P : Slot → Prop} {s : State} {i : SlotId} {r : Result} (hs : ∀ j, P (s.slot j))
    (h : (s.slot i).state ≠ .claimed) (hi : (s.slot i).state.isActive = true → P ((s.slot i).completed r)) :
    ∀ j, P ((s.complete i r).slot j) := by
  cases hc : (s.slot i).state.canComplete with
  | false => rwa [State.complete_other hc]
  | true =>
    refine State.forall_slot_congr i hs (fun j hj => by rw [State.slot_complete hc, if_neg hj]) ?_
    rw [State.slot_complete hc, if_pos rfl]
    exact hi (SlotState.isActive_of_canComplete hc h)

/-- The record that a POST that completes at once leaves. -/
theorem State.slot_completeAtOnce {s : State} {i : SlotId} (r : Result) (h : (s.slot i).state = .claimed) (j : SlotId) :
    ((s.modSlot i fun x => x.startProgress).complete i r).slot j =
      if j = i then (s.slot i).startProgress.completed r else s.slot j := by
  have hc : ((s.modSlot i fun x => x.startProgress).slot i).state.canComplete = true := by
    rw [State.slot_modSlot_self]
    show (s.slot i).state.canComplete = true
    rw [h]
    rfl
  rw [State.slot_complete hc, State.slot_modSlot_self]
  by_cases hj : j = i
  · simp [hj]
  · simp [hj, State.slot_modSlot_ne]

/-- Every change keeps the progress relations, where the slots that complete have been posted. -/
theorem Change.keeps_progressFits {E : Prop} (hE : E) {s t : State} (h : Change E s t) (hs : s.progressFits) :
    t.progressFits := by
  cases h with
  | aside h => exact fun j => by rw [h.slot]; exact hs j
  | store chain off bytes => exact hs
  | edit i h =>
    refine State.forall_slot_congr i hs (fun j hj => State.slot_setSlot_ne _ _ _ _ hj) ?_
    rw [State.slot_setSlot_self]
    exact h.keeps_progressFits (hs i)
  | complete i r _ h =>
    exact State.forall_slot_complete hs (h hE) fun ha => Slot.progressFits_completed r ha (hs i)
  | completeAtOnce i o _ h =>
    refine State.forall_slot_congr i hs (fun j hj => by rw [State.slot_completeAtOnce _ h, if_neg hj]) ?_
    rw [State.slot_completeAtOnce _ h, if_pos rfl]
    exact Slot.progressFits_completedAtOnce _ _
  | enqueue i h hp =>
    have hroom := Slot.reservation_le_of_postRefusal hp
    refine State.forall_slot_congr i hs (fun j hj => by rw [State.slot_enqueueSlot hroom, if_neg hj]) ?_
    rw [State.slot_enqueueSlot hroom, if_pos rfl]
    exact State.progressFits_queuedSlot h (Slot.passesPost_of_postRefusal hp) (hs i)
  | free i _ =>
    refine State.forall_slot_congr i hs (fun j hj => by rw [State.slot_freeSlot, if_neg hj]) ?_
    rw [State.slot_freeSlot, if_pos rfl]
    exact Slot.progressFits_empty
  | fill i data h _ hd =>
    have hroom := Slot.fillBlocks_le_of_not_dropped hd
    refine State.forall_slot_congr i hs (fun j hj => by rw [State.slot_storeFill hroom, if_neg hj]) ?_
    rw [State.slot_storeFill hroom, if_pos rfl]
    exact hs i
  | pop head rest _ =>
    refine State.forall_slot_congr head.slot hs (fun j hj => by rw [State.slot_popHead, if_neg hj]) ?_
    rw [State.slot_popHead, if_pos rfl]
    exact Slot.progressFits_settled (hs head.slot)
  | reset h => exact fun j => by rw [h.slot, State.slot_reset]; exact Slot.progressFits_empty

/-- Settles O57: every kind of change keeps the progress relations where the slots that complete have been posted, which the
engagements of R64 give. -/
theorem stepKeepsTheProgressRelations : Obligations.StepKeepsTheProgressRelations := by
  intro s t hs _ heng h
  obtain ⟨hstations, -⟩ := heng
  exact (step_changes h).preserves (fun _ _ => Change.keeps_progressFits fun st => (hstations st).2) hs

/-! ## The chains (R33, R34) -/

/-- An edit keeps the number of blocks on a slot's chain at what its state gives. -/
theorem Slot.Edit.keeps_chainFits {x y : Slot} (h : x.Edit y) (hx : x.chainFits) : y.chainFits := by
  obtain ⟨hfree, hclaimed, hactive, hdone⟩ := hx
  cases h with
  | aside => exact ⟨hfree, hclaimed, hactive, hdone⟩
  | claim h =>
    obtain ⟨hchain, hcursor⟩ := hfree h
    refine ⟨nofun, fun _ => ?_, nofun, nofun⟩
    simp [hchain, hcursor, blocksFor, roundUpDiv, Config.blockBytes]
  | describe d h hl =>
    obtain ⟨hlen, hmod, hmax, hbelow⟩ := hclaimed h
    refine ⟨?_, fun _ => ⟨hlen, hmod, hmax, fun hpos => ?_⟩, ?_, ?_⟩
    · simp [h]
    · rcases hl with hl | hl
      · have : Slot.len { x with desc := d } = x.len := congrArg BitVec.toNat hl
        rw [this]
        exact hbelow hpos
      · exact absurd hpos (by simp [hl])
    · simp [h, SlotState.isActive]
    · simp [h]
  | accept h => exact ⟨nofun, nofun, fun _ => hactive (by rw [h]; rfl), nofun⟩
  | taken h _ _ =>
    refine ⟨?_, ?_, fun _ => hactive (by rw [h]; rfl), ?_⟩ <;> simp [Slot.afterTaken, h]
  | give p h _ _ _ _ =>
    refine ⟨?_, ?_, fun _ => hactive (by rw [h]; rfl), ?_⟩ <;> simp [Slot.afterGive, h]
  | park h => exact ⟨nofun, nofun, fun _ => hactive (by rw [h]; rfl), nofun⟩
  | resume h => exact ⟨nofun, nofun, fun _ => hactive (by rw [h]; rfl), nofun⟩
  | retry _ _ => exact ⟨hfree, hclaimed, hactive, hdone⟩
  | abort o _ h => exact ⟨nofun, nofun, fun _ => hactive (SlotState.isActive_of_canStop h), nofun⟩

theorem Slot.chainFits_empty : Slot.empty.chainFits :=
  ⟨fun _ => ⟨rfl, rfl⟩, nofun, nofun, nofun⟩

theorem blocksFor_mono {m n : Nat} (h : m ≤ n) : blocksFor m ≤ blocksFor n := by
  simp only [blocksFor, roundUpDiv, Config.blockBytes]
  omega

/-- No more blocks are kept at completion than the length holds (R39). -/
theorem Slot.keptBlocks_le {x : Slot} (h : x.bytesMoved ≤ x.len) : x.keptBlocks ≤ x.postedBlocks := by
  unfold Slot.keptBlocks
  split
  · exact blocksFor_mono h
  all_goals exact Nat.zero_le _

theorem Slot.chainFits_completed {x : Slot} (r : Result) (h : x.state.isActive = true) (hp : x.progressFits)
    (hx : x.chainFits) : (x.completed r).chainFits := by
  obtain ⟨-, -, hactive, -⟩ := hx
  obtain ⟨-, hposted, -⟩ := hp
  obtain ⟨-, hlen⟩ := hactive h
  obtain ⟨-, hmoved⟩ := hposted (SlotState.isPosted_of_isActive h)
  refine ⟨nofun, nofun, nofun, fun _ => ?_⟩
  show (x.chain.take x.keptBlocks).length = x.keptBlocks
  rw [List.length_take, hlen]
  exact Nat.min_eq_left (Slot.keptBlocks_le hmoved)

theorem Slot.chainFits_completedAtOnce (x : Slot) (r : Result) : (x.startProgress.completed r).chainFits := by
  have hkept : x.startProgress.keptBlocks = 0 := by
    unfold Slot.keptBlocks
    split
    · exact (rfl : blocksFor 0 = 0)
    all_goals rfl
  refine ⟨nofun, nofun, nofun, fun _ => ?_⟩
  show (x.chain.take x.startProgress.keptBlocks).length = x.startProgress.keptBlocks
  rw [hkept]
  rfl

/-- The blocks of a filled STORE are those of its length, and a FETCH takes them at its POST. -/
theorem State.chainFits_queuedSlot {s : State} {i : SlotId} (h : (s.slot i).state = .claimed)
    (hp : (s.slot i).passesPost s.freeList.length) (hx : (s.slot i).chainFits) : (s.queuedSlot i).chainFits := by
  obtain ⟨-, hclaimed, -, -⟩ := hx
  obtain ⟨hlen, hmod, -, hbelow⟩ := hclaimed h
  have hroom : (s.slot i).reservation ≤ s.freeList.length :=
    Slot.reservation_eq_blocksTaken _ ▸ Slot.blocksTaken_le_of_passesPost hp
  refine ⟨nofun, nofun, fun _ => ⟨Slot.lengthFits_of_passesPost hp, ?_⟩, nofun⟩
  show ((s.slot i).chain ++ s.freeList.take (s.slot i).reservation).length = blocksFor (s.slot i).len
  rw [List.length_append, List.length_take_of_le hroom, hlen]
  obtain ⟨-, -, hkind⟩ := hp
  cases hk : (s.slot i).desc.kind <;>
    simp only [hk, Slot.reservation, blocksFor, roundUpDiv, Config.blockBytes] at hkind ⊢
  case store =>
    obtain ⟨hpos, -, -, hfill⟩ := hkind
    have := hbelow (by omega)
    omega
  case fetch =>
    obtain ⟨-, -, hfill, -⟩ := hkind
    rw [hfill]
    show 0 + ((s.slot i).len + 31) / 32 = ((s.slot i).len + 31) / 32
    omega
  case control =>
    obtain ⟨hzero, hfill⟩ := hkind
    rw [hfill, hzero]

/-- A filling write takes a block at each block boundary (R31, R33). -/
theorem State.chainFits_filled {s : State} {i : SlotId} (h : (s.slot i).state = .claimed)
    (hd : fillDropped (s.slot i) s.freeList = false) (hx : (s.slot i).chainFits) :
    Slot.chainFits { s.slot i with chain := s.fillChain i, fillCursor := (s.slot i).fillCursor + 4 } := by
  obtain ⟨-, hclaimed, -, -⟩ := hx
  obtain ⟨hlen, hmod, -, -⟩ := hclaimed h
  have hroom := Slot.fillBlocks_le_of_not_dropped hd
  rw [Bool.eq_false_iff, Ne, fillDropped_iff, not_or, not_or] at hd
  obtain ⟨hbelow, hmax, -⟩ := hd
  refine ⟨?_, fun _ => ⟨?_, ?_, ?_, fun _ => ?_⟩, ?_, ?_⟩
  · simp [h]
  · show (s.fillChain i).length = _
    rw [State.fillChain, List.length_append, List.length_take_of_le hroom, hlen]
    simp only [Slot.fillBlocks, blocksFor, roundUpDiv, Config.blockBytes]
    by_cases hc : (s.slot i).fillCursor % 32 = 0 <;> simp only [hc, if_true, if_false] <;> omega
  · show ((s.slot i).fillCursor + 4) % 4 = 0
    omega
  · show (s.slot i).fillCursor + 4 ≤ 512
    omega
  · show (s.slot i).fillCursor + 4 < (s.slot i).len + 4
    omega
  · simp [h, SlotState.isActive]
  · simp [h]

theorem Slot.chainFits_settled {x : Slot} (hx : x.chainFits) :
    Slot.chainFits { x with state := if x.state = .complete then .settled else x.state } := by
  by_cases hc : x.state = .complete
  · obtain ⟨-, -, -, hdone⟩ := hx
    simp only [hc, if_true]
    exact ⟨nofun, nofun, nofun, fun _ => hdone (.inl hc)⟩
  · simp only [hc, if_false]
    exact hx

/-- Every change keeps the chain lengths beside the progress relations, where the slots that complete have been posted. -/
theorem Change.keeps_chainsFit {E : Prop} (hE : E) {s t : State} (h : Change E s t) (hp : s.progressFits)
    (hs : s.chainsFit) : t.chainsFit := by
  cases h with
  | aside h => exact fun j => by rw [h.slot]; exact hs j
  | store chain off bytes => exact hs
  | edit i h =>
    refine State.forall_slot_congr i hs (fun j hj => State.slot_setSlot_ne _ _ _ _ hj) ?_
    rw [State.slot_setSlot_self]
    exact h.keeps_chainFits (hs i)
  | complete i r _ h =>
    exact State.forall_slot_complete hs (h hE) fun ha => Slot.chainFits_completed r ha (hp i) (hs i)
  | completeAtOnce i o _ h =>
    refine State.forall_slot_congr i hs (fun j hj => by rw [State.slot_completeAtOnce _ h, if_neg hj]) ?_
    rw [State.slot_completeAtOnce _ h, if_pos rfl]
    exact Slot.chainFits_completedAtOnce _ _
  | enqueue i h hpost =>
    have hroom := Slot.reservation_le_of_postRefusal hpost
    refine State.forall_slot_congr i hs (fun j hj => by rw [State.slot_enqueueSlot hroom, if_neg hj]) ?_
    rw [State.slot_enqueueSlot hroom, if_pos rfl]
    exact State.chainFits_queuedSlot h (Slot.passesPost_of_postRefusal hpost) (hs i)
  | free i _ =>
    refine State.forall_slot_congr i hs (fun j hj => by rw [State.slot_freeSlot, if_neg hj]) ?_
    rw [State.slot_freeSlot, if_pos rfl]
    exact Slot.chainFits_empty
  | fill i data h _ hd =>
    have hroom := Slot.fillBlocks_le_of_not_dropped hd
    refine State.forall_slot_congr i hs (fun j hj => by rw [State.slot_storeFill hroom, if_neg hj]) ?_
    rw [State.slot_storeFill hroom, if_pos rfl]
    exact State.chainFits_filled h hd (hs i)
  | pop head rest _ =>
    refine State.forall_slot_congr head.slot hs (fun j hj => by rw [State.slot_popHead, if_neg hj]) ?_
    rw [State.slot_popHead, if_pos rfl]
    exact Slot.chainFits_settled (hs head.slot)
  | reset h => exact fun j => by rw [h.slot, State.slot_reset]; exact Slot.chainFits_empty

/-- Settles O58: every kind of change keeps the chain lengths beside the progress relations, and a step is a run of changes. -/
theorem stepKeepsTheChainLengths : Obligations.StepKeepsTheChainLengths := by
  intro s t hs _ _ hp heng h
  obtain ⟨hstations, -⟩ := heng
  have hE : ∀ st : StationId, s.engagedFits st := fun st => (hstations st).2
  have hkeeps : ∀ u v, Change (∀ st, s.engagedFits st) u v → u.progressFits ∧ u.chainsFit →
      v.progressFits ∧ v.chainsFit := fun u v hc ⟨hprogress, hchains⟩ =>
    ⟨hc.keeps_progressFits hE hprogress, hc.keeps_chainsFit hE hprogress hchains⟩
  exact ((step_changes h).preserves (I := fun u => u.progressFits ∧ u.chainsFit) hkeeps ⟨hp, hs⟩).2

end Sys2Proof.Machine

/-! The completion step and its frame, and the announcement of the records that an event appended (R19, R20, R39, R76, R164,
R165). -/

namespace Sys2Proof.Machine

/-! ## What a station's record is after a slot has left it -/

/-- The poll timer once the poll condition has been looked at: it stops where it runs or is expired and the condition does not
hold (R76). -/
def PollTimer.settled (p : PollTimer) (condition : Bool) : PollTimer :=
  if condition = false ∧ (p = .expired ∨ p.isRunning = true) then .stopped else p

/-- A station record after a slot has left its parked list; `ready` gives the ready flags of the slots (R76, R125). -/
def Station.unpark (r : Station) (i : SlotId) (ready : SlotId → Bool) : Station :=
  { r with
    parked := r.parked.erase i
    pollTimer := if i ∈ r.parked then
        r.pollTimer.settled (decide (r.state = .online) && (r.parked.erase i).any fun j => !ready j)
      else r.pollTimer }

/-- A station record after a slot has left its engaged field and its parked list (R19 step 2). -/
def Station.without (r : Station) (i : SlotId) (ready : SlotId → Bool) : Station :=
  Station.unpark { r with engaged := if r.engaged = some i then none else r.engaged } i ready

theorem State.settlePollTimer_eq_modStation (s : State) (st : StationId) :
    s.settlePollTimer st = s.modStation st fun r => { r with pollTimer := r.pollTimer.settled (s.pollCondition st) } := by
  unfold State.settlePollTimer
  split
  case isTrue h =>
    rw [State.modStation_id]
    simp [PollTimer.settled, h]
  case isFalse h =>
    have hc : s.pollCondition st = false := Bool.eq_false_iff.mpr h
    have hkeep : (s.station st).pollTimer ≠ .expired → (s.station st).pollTimer.isRunning = false →
        s = s.modStation st fun r => { r with pollTimer := r.pollTimer.settled (s.pollCondition st) } := by
      intro he hr
      rw [State.modStation_id]
      simp [PollTimer.settled, he, hr]
    split
    case h_1 n hp => simp [State.modStation, PollTimer.settled, hp, hc, PollTimer.isRunning]
    case h_2 hp => simp [State.modStation, PollTimer.settled, hp, hc]
    case h_3 hp | h_4 hp => exact hkeep (by simp [hp]) (by rw [hp]; rfl)

theorem State.leaveParked_eq (s : State) (st : StationId) (i : SlotId) :
    s.leaveParked st i = s.modStation st fun r => r.unpark i fun j => (s.slot j).ready := by
  unfold State.leaveParked
  split
  case isTrue h =>
    have hin : i ∈ (s.station st).parked := by simpa using h
    rw [State.settlePollTimer_eq_modStation, State.modStation_modStation]
    simp [State.modStation, Station.unpark, State.pollCondition, hin]
  case isFalse h =>
    have hout : i ∉ (s.station st).parked := by simpa using h
    rw [State.modStation_id]
    simp [Station.unpark, hout, List.erase_of_not_mem]

/-- A slot that stands in no parked list leaves none. -/
theorem State.leaveParked_of_not_mem {s : State} {st : StationId} {i : SlotId} (h : i ∉ (s.station st).parked) :
    s.leaveParked st i = s := by
  simp [State.leaveParked, h]

/-- The station table after a slot has left its station's record. -/
def State.stationsWithout (s : State) (i : SlotId) : Vector Station 8 :=
  match (s.slot i).desc.stationId with
  | some st => s.stations.set st.val ((s.station st).without i fun j => (s.slot j).ready)
  | none => s.stations

theorem State.leaveStation_eq (s : State) (i : SlotId) :
    s.leaveStation i = { s with stations := s.stationsWithout i } := by
  unfold State.leaveStation State.stationsWithout
  cases hst : (s.slot i).desc.stationId with
  | some st =>
    simp only
    rw [State.leaveParked_eq, State.leaveEngaged, State.modStation_modStation]
    rfl
  | none => rfl

theorem State.station_stationsWithout {s : State} {i : SlotId} {st : StationId} (h : (s.slot i).desc.stationId = some st) :
    (s.stationsWithout i)[st.val] = (s.station st).without i fun j => (s.slot j).ready := by
  simp [State.stationsWithout, h]

theorem State.station_stationsWithout_ne {s : State} {i : SlotId} {v : StationId} (h : (s.slot i).desc.stationId ≠ some v) :
    (s.stationsWithout i)[v.val] = s.station v := by
  unfold State.stationsWithout
  split
  · rename_i st hst
    have hne : st.val ≠ v.val := fun e => h (hst.trans (congrArg some (Fin.ext e)))
    simp [Vector.getElem_set_ne, hne, State.station]
  · rfl

/-! ## The completion step -/

/-- The completion step, every field written out. -/
theorem State.complete_eq_update {s : State} {i : SlotId} {r : Result} (h : (s.slot i).state.canComplete = true) :
    s.complete i r = { s with
      slots := s.slots.set i.val ((s.slot i).completed r)
      urgent := s.urgent.erase i
      normal := s.normal.erase i
      freeList := s.freeList ++ (s.slot i).chain.drop (s.slot i).keptBlocks
      queue := s.queue ++ [(s.slot i).recordOf i r s.seqCounter]
      seqCounter := s.seqCounter + 1
      unannounced := s.unannounced + 1
      stations := s.stationsWithout i } := by
  rw [State.complete_eq h, State.leaveStation_eq]
  rfl

theorem State.station_complete {s : State} {i : SlotId} {r : Result} (h : (s.slot i).state.canComplete = true)
    (v : StationId) : (s.complete i r).station v = (s.stationsWithout i)[v.val] := by
  rw [State.complete_eq_update h]
  rfl

/-- The blocks kept at completion, as the statements count them. -/
theorem Slot.keptBlocks_eq (x : Slot) : x.keptBlocks = if x.desc.kind = .fetch then (x.bytesMoved + 31) / 32 else 0 := by
  cases hk : x.desc.kind <;> simp [Slot.keptBlocks, hk, blocksFor, roundUpDiv, Config.blockBytes]

/-- The poll timer after a departure, as the statements give it. -/
theorem Station.without_pollTimer (r : Station) (i : SlotId) (ready : SlotId → Bool) :
    (r.without i ready).pollTimer =
      if i ∈ r.parked ∧ ¬ (r.state = .online ∧ ∃ j ∈ r.parked.erase i, ready j = false) ∧
          (r.pollTimer = .expired ∨ r.pollTimer.isRunning = true) then .stopped
      else r.pollTimer := by
  have hcond : (decide (r.state = .online) && (r.parked.erase i).any fun j => !ready j) = false ↔
      ¬ (r.state = .online ∧ ∃ j ∈ r.parked.erase i, ready j = false) := by
    rw [← Bool.not_eq_true, Bool.and_eq_true, decide_eq_true_eq, List.any_eq_true]
    simp only [Bool.not_eq_true']
  by_cases hin : i ∈ r.parked
  · simp only [Station.without, Station.unpark, PollTimer.settled, hin, if_true, hcond, true_and]
  · simp only [Station.without, Station.unpark, hin, if_false, false_and]

/-- The coalescing decision at a holdoff of 0 or at the threshold, and below it. -/
theorem State.coalesce_raises {s : State} (h : s.cfg.holdoff = 0 ∨ s.cfg.completionThreshold ≤ s.unannounced) :
    s.coalesce = s.raiseCompletion := if_pos h

theorem State.coalesce_holds {s : State} (h : s.cfg.holdoff ≠ 0) (hu : s.unannounced < s.cfg.completionThreshold) :
    s.coalesce = { s with holdoffTimer := some (s.holdoffTimer.getD s.cfg.holdoff) } := by
  have hnot : ¬ (s.cfg.holdoff = 0 ∨ s.cfg.completionThreshold ≤ s.unannounced) := by omega
  rw [State.coalesce, if_neg hnot]
  split
  · rename_i hn
    simp [hn]
  · rename_i hn
    rw [hn, Option.getD_some, ← hn]

/-- Settles O52: the completion step by its record update, the coalescing decision by its two cases. -/
theorem completionAndAnnouncement : Obligations.CompletionAndAnnouncement := by
  refine ⟨?_, fun s => ⟨State.coalesce_raises, State.coalesce_holds⟩,
    fun s recs t hq => ⟨fun hne => ?_, fun he => ?_⟩⟩
  · intro s i r hstate x keep t
    have hc : (s.slot i).state.canComplete = true := by
      simp only [List.mem_cons, List.not_mem_nil, or_false] at hstate
      rcases hstate with h | h | h | h | h <;> rw [h] <;> rfl
    have hkeep : x.keptBlocks = keep := x.keptBlocks_eq
    refine ⟨?_, fun st hst => ?_, ?_⟩
    · have ht : t.stations = s.stationsWithout i := by
        show (s.complete i r).stations = _
        rw [State.complete_eq_update hc]
      rw [ht, ← hkeep]
      exact State.complete_eq_update hc
    · rw [State.station_complete hc, State.station_stationsWithout_ne hst]
    · intro st hst was left
      rw [State.station_complete hc, State.station_stationsWithout hst, ← Station.without_pollTimer]
      rfl
  · refine State.announceSince_grown ?_
    have := List.length_pos_iff.mpr hne
    rw [hq, List.length_append]
    omega
  · exact State.announceSince_same (by simp [hq, he])

end Sys2Proof.Machine

/-! Several slots that complete in one event: the walks of R21 over the dispatch lists, as one list of completions each. -/

namespace Sys2Proof.Machine

/-! ## The walk -/

/-- With the lists matching the slot states no slot stands twice in the walk. -/
theorem State.nodup_walkOrder {s : State} (h : s.listsMatch) : s.walkOrder.Nodup := by
  rw [List.nodup_iff_count_le_one]
  intro i
  obtain ⟨hu, hn⟩ := h i
  rw [State.walkOrder, List.count_append, hu, hn]
  cases hc : (s.slot i).desc.cls <;> simp only [Slot.listCount, hc, reduceCtorEq, and_false, if_false] <;>
    split <;> omega

/-- With the lists matching the slot states the walk visits the posted and unfinished slots. -/
theorem State.mem_walkOrder_iff {s : State} (h : s.listsMatch) (i : SlotId) :
    i ∈ s.walkOrder ↔ (s.slot i).state.isActive = true := by
  obtain ⟨hu, hn⟩ := h i
  rw [← List.count_pos_iff, State.walkOrder, List.count_append, hu, hn]
  cases hc : (s.slot i).desc.cls <;> cases ha : (s.slot i).state.isActive <;> simp [Slot.listCount, hc, ha]

/-- The slots that a station's event reaches, by the list of their states. -/
theorem State.slotsAt_eq_walkAt {s : State} {p : SlotState → Bool} {states : List SlotState}
    (h : ∀ x, p x = decide (x ∈ states)) (st : StationId) : s.slotsAt st p = s.walkAt st states := by
  simp only [State.slotsAt, State.walkAt, Slot.isAt, h]

theorem State.mem_slotsAt_iff {s : State} {st : StationId} {p : SlotState → Bool} {i : SlotId} :
    i ∈ s.slotsAt st p ↔ i ∈ s.walkOrder ∧ (s.slot i).desc.stationId = some st ∧ p (s.slot i).state = true := by
  simp [State.slotsAt, List.mem_filter, Slot.isAt]

theorem State.nodup_slotsAt {s : State} (h : s.listsMatch) (st : StationId) (p : SlotState → Bool) :
    (s.slotsAt st p).Nodup := (State.nodup_walkOrder h).filter _

/-! ## Completions in list order -/

/-- Complete each of a list of slots with the result that `r` gives it, in list order (R21). -/
def State.completeEach (s : State) (ids : List SlotId) (r : SlotId → Result) : State :=
  ids.foldl (fun t i => t.complete i (r i)) s

theorem State.completeAll_eq (s : State) (ids : List SlotId) (o : Ending) :
    s.completeAll ids o = s.completeEach ids fun _ => { outcome := o } := rfl

theorem State.completeEach_cons (s : State) (i : SlotId) (ids : List SlotId) (r : SlotId → Result) :
    s.completeEach (i :: ids) r = (s.complete i (r i)).completeEach ids r := rfl

/-- From `s` to `u` the slots of `ids` have completed in that order, each with its result; of the rest, stations and pool
aside, nothing has changed. -/
structure Completes (s u : State) (ids : List SlotId) (r : SlotId → Result) : Prop where
  slot_mem : ∀ i ∈ ids, u.slot i = (s.slot i).completed (r i)
  slot_not_mem : ∀ i, i ∉ ids → u.slot i = s.slot i
  records : ∃ recs : List Record, u.queue = s.queue ++ recs ∧
    recs.map (fun q => (q.slot, q.outcome)) = ids.map (fun i => (i, (r i).outcome)) ∧
    recs.map (fun q => q.seq) = (List.range ids.length).map fun k => s.seqCounter + BitVec.ofNat 8 k
  seqCounter : u.seqCounter = s.seqCounter + BitVec.ofNat 8 ids.length
  urgent : u.urgent = s.urgent.filter fun i => decide (i ∉ ids)
  normal : u.normal = s.normal.filter fun i => decide (i ∉ ids)

theorem Completes.nil (s : State) (r : SlotId → Result) : Completes s s [] r := by
  refine ⟨nofun, fun _ _ => rfl, ⟨[], ?_, rfl, rfl⟩, ?_, ?_, ?_⟩ <;> simp

/-- Taking one element out of a list without repetition and then others is taking them all out. -/
theorem filter_erase_eq {l : List SlotId} (h : l.Nodup) (i : SlotId) (ids : List SlotId) :
    (l.erase i).filter (fun j => decide (j ∉ ids)) = l.filter fun j => decide (j ∉ i :: ids) := by
  rw [h.erase_eq_filter, List.filter_filter]
  refine List.filter_congr fun j _ => ?_
  by_cases hj : j = i <;> simp [hj]

/-- One completion before others. -/
theorem Completes.cons {s u : State} {i : SlotId} {ids : List SlotId} {r : SlotId → Result}
    (hc : (s.slot i).state.canComplete = true) (hi : i ∉ ids) (hu : s.urgent.Nodup) (hn : s.normal.Nodup)
    (h : Completes (s.complete i (r i)) u ids r) : Completes s u (i :: ids) r := by
  obtain ⟨hmem, hnot, ⟨recs, hqueue, hslots, hseqs⟩, hseq, hurgent, hnormal⟩ := h
  have hcounter : (s.complete i (r i)).seqCounter = s.seqCounter + 1 := by rw [State.complete_eq_update hc]
  have hnext : ∀ k : Nat, s.seqCounter + 1 + BitVec.ofNat 8 k = s.seqCounter + BitVec.ofNat 8 (k + 1) := fun k => by
    rw [BitVec.add_assoc, BitVec.ofNat_add, BitVec.add_comm (BitVec.ofNat 8 k)]
    rfl
  refine ⟨fun j hj => ?_, fun j hj => ?_, ⟨(s.slot i).recordOf i (r i) s.seqCounter :: recs, ?_, ?_, ?_⟩, ?_, ?_, ?_⟩
  · by_cases he : j = i
    · rw [he, hnot i hi, State.slot_complete hc, if_pos rfl]
    · rw [hmem j (List.mem_of_ne_of_mem he hj), State.slot_complete hc, if_neg he]
  · obtain ⟨he, hj⟩ := not_or.mp (mt List.mem_cons.mpr hj)
    rw [hnot j hj, State.slot_complete hc, if_neg he]
  · rw [hqueue, State.complete_queue hc, List.append_assoc]
    rfl
  · rw [List.map_cons, hslots]
    rfl
  · rw [List.map_cons, hseqs, List.length_cons, List.range_succ_eq_map, List.map_cons, List.map_map]
    congr 1
    · simp [Slot.recordOf]
    · exact List.map_congr_left fun k _ => by rw [hcounter, hnext, Function.comp]
  · rw [hseq, hcounter, hnext, List.length_cons]
  · rw [hurgent, State.complete_eq_update hc, filter_erase_eq hu]
  · rw [hnormal, State.complete_eq_update hc, filter_erase_eq hn]

/-- The completions of a list of slots that stand CLAIMED or posted and unfinished, each once. -/
theorem completes_completeEach {ids : List SlotId} (r : SlotId → Result) (hd : ids.Nodup) {s : State}
    (hc : ∀ i ∈ ids, (s.slot i).state.canComplete = true) (hu : s.urgent.Nodup) (hn : s.normal.Nodup) :
    Completes s (s.completeEach ids r) ids r := by
  induction ids generalizing s with
  | nil => exact .nil s r
  | cons i ids ih =>
    obtain ⟨hi, hd⟩ := List.nodup_cons.mp hd
    have hfirst := hc i (by simp)
    refine .cons hfirst hi hu hn (ih hd (fun j hj => ?_) ?_ ?_)
    · have he : j ≠ i := fun e => hi (e ▸ hj)
      rw [State.slot_complete hfirst, if_neg he]
      exact hc j (by simp [hj])
    · rw [State.complete_eq_update hfirst]
      exact hu.erase i
    · rw [State.complete_eq_update hfirst]
      exact hn.erase i

/-- From `s` to `t` nothing has changed but the slot table, the dispatch lists, the free list, the queue with its counts, and the
station table. -/
def OnlyTables (s t : State) : Prop := t = { s with
  slots := t.slots, urgent := t.urgent, normal := t.normal, freeList := t.freeList, queue := t.queue
  seqCounter := t.seqCounter, unannounced := t.unannounced, stations := t.stations }

theorem OnlyTables.refl (s : State) : OnlyTables s s := rfl

theorem OnlyTables.trans {s t u : State} (h : OnlyTables s t) (k : OnlyTables t u) : OnlyTables s u :=
  Eq.trans k (by rw [h])

theorem onlyTables_complete (s : State) (i : SlotId) (r : Result) : OnlyTables s (s.complete i r) := by
  cases hc : (s.slot i).state.canComplete with
  | false => rw [State.complete_other hc]; exact .refl s
  | true => rw [State.complete_eq_update hc]; rfl

/-- Completions leave the rest as it is, whatever the states of the slots. -/
theorem onlyTables_completeEach (ids : List SlotId) (r : SlotId → Result) (s : State) :
    OnlyTables s (s.completeEach ids r) := by
  induction ids generalizing s with
  | nil => exact .refl s
  | cons i ids ih => exact (onlyTables_complete s i (r i)).trans (ih _)

/-- A slot that its own station's record does not hold changes no station when it completes. -/
theorem State.stationsWithout_of_unheld {s : State} {i : SlotId}
    (h : ∀ st, (s.slot i).desc.stationId = some st → (s.station st).engaged ≠ some i ∧ i ∉ (s.station st).parked) :
    s.stationsWithout i = s.stations := by
  unfold State.stationsWithout
  split
  · rename_i st hst
    obtain ⟨he, hp⟩ := h st hst
    have hrec : (s.station st).without i (fun j => (s.slot j).ready) = s.station st := by
      simp [Station.without, Station.unpark, he, hp, List.erase_of_not_mem]
    rw [hrec]
    simp [State.station]
  · rfl

/-- Slots that no station's record holds change no station when they complete. -/
theorem State.completeEach_stations {ids : List SlotId} {r : SlotId → Result} {s : State}
    (h : ∀ i ∈ ids, ∀ st, (s.slot i).desc.stationId = some st →
      (s.station st).engaged ≠ some i ∧ i ∉ (s.station st).parked) :
    (s.completeEach ids r).stations = s.stations := by
  induction ids generalizing s with
  | nil => rfl
  | cons i ids ih =>
    rw [State.completeEach_cons]
    cases hc : (s.slot i).state.canComplete with
    | false =>
      rw [State.complete_other hc]
      exact ih fun j hj => h j (by simp [hj])
    | true =>
      have hsame : (s.complete i (r i)).stations = s.stations := by
        rw [State.complete_eq_update hc]
        exact State.stationsWithout_of_unheld (h i (by simp))
      rw [ih, hsame]
      intro j hj st hst
      have hdesc : ((s.complete i (r i)).slot j).desc = (s.slot j).desc := by
        rw [State.slot_complete hc]
        split
        · rename_i he
          rw [he]
          rfl
        · rfl
      rw [hdesc] at hst
      rw [State.station, hsame]
      exact h j (by simp [hj]) st hst

/-! ## The form of the statements -/

/-- Two states that agree on what `completesInOrder` speaks of. -/
structure SameCore (s t : State) : Prop where
  slot : ∀ i, (t.slot i).state = (s.slot i).state ∧ (t.slot i).outcome = (s.slot i).outcome ∧
    (t.slot i).stationStatus = (s.slot i).stationStatus ∧ (t.slot i).lateStop = (s.slot i).lateStop ∧
    (t.slot i).lifetimeTimer = (s.slot i).lifetimeTimer ∧ (t.slot i).stopRequest = (s.slot i).stopRequest ∧
    (t.slot i).bytesMoved = (s.slot i).bytesMoved ∧ (t.slot i).desc = (s.slot i).desc
  queue : t.queue = s.queue
  seqCounter : t.seqCounter = s.seqCounter
  urgent : t.urgent = s.urgent
  normal : t.normal = s.normal

theorem SameCore.refl (s : State) : SameCore s s :=
  ⟨fun _ => ⟨rfl, rfl, rfl, rfl, rfl, rfl, rfl, rfl⟩, rfl, rfl, rfl, rfl⟩

theorem SameCore.trans {s t u : State} (h : SameCore s t) (k : SameCore t u) : SameCore s u := by
  refine ⟨fun i => ?_, k.queue.trans h.queue, k.seqCounter.trans h.seqCounter, k.urgent.trans h.urgent,
    k.normal.trans h.normal⟩
  obtain ⟨h1, h2, h3, h4, h5, h6, h7, h8⟩ := h.slot i
  obtain ⟨k1, k2, k3, k4, k5, k6, k7, k8⟩ := k.slot i
  exact ⟨k1.trans h1, k2.trans h2, k3.trans h3, k4.trans h4, k5.trans h5, k6.trans h6, k7.trans h7, k8.trans h8⟩

/-- Completions with no station status and no late stop are those of the statements, from any state that agrees with the first
and to any that agrees with the last. -/
theorem Completes.completesInOrder {s t u v : State} {ids : List SlotId} {r : SlotId → Result} {o : SlotId → Ending}
    (h : Completes t u ids r) (hs : SameCore s t) (hv : SameCore u v)
    (hr : ∀ i ∈ ids, (r i).outcome = o i ∧ (r i).stationStatus = none ∧ (r i).lateStop = false) :
    s.completesInOrder v ids o := by
  obtain ⟨hmem, hnot, ⟨recs, hqueue, hslots, hseqs⟩, hseq, hurgent, hnormal⟩ := h
  refine ⟨fun i hi => ?_, fun i hi => ?_, ⟨recs, ?_, ?_, ?_⟩, ?_, ?_, ?_⟩
  · obtain ⟨ho, hstat, hlate⟩ := hr i hi
    obtain ⟨h1, h2, h3, h4, h5, h6, h7, h8⟩ := hv.slot i
    obtain ⟨-, -, -, -, -, -, k7, k8⟩ := hs.slot i
    rw [h1, h2, h3, h4, h5, h6, h7, h8, hmem i hi]
    exact ⟨rfl, congrArg some ho, hstat, hlate, rfl, rfl, k7, k8⟩
  · rw [(hv.slot i).1, hnot i hi, (hs.slot i).1]
  · rw [hv.queue, hqueue, hs.queue]
  · rw [hslots]
    exact List.map_congr_left fun i hi => by rw [(hr i hi).1]
  · rw [hseqs, hs.seqCounter]
  · rw [hv.seqCounter, hseq, hs.seqCounter]
  · rw [hv.urgent, hurgent, hs.urgent]
  · rw [hv.normal, hnormal, hs.normal]

/-- The lists of a state that matches have no repetition. -/
theorem State.nodup_lists {s : State} (h : s.listsMatch) : s.urgent.Nodup ∧ s.normal.Nodup := by
  constructor <;> rw [List.nodup_iff_count_le_one] <;> intro i
  · exact (h i).1 ▸ (s.slot i).listCount_le .urgent
  · exact (h i).2 ▸ (s.slot i).listCount_le .normal

theorem SlotState.canComplete_of_isActive {st : SlotState} (h : st.isActive = true) : st.canComplete = true :=
  (SlotState.canComplete_iff st).mpr (.inl h)

/-- The walk over a station's slots in the states `p`, which are among the posted and unfinished ones. -/
theorem completes_slotsAt {s : State} (h : s.listsMatch) (st : StationId) (p : SlotState → Bool)
    (r : SlotId → Result) (hp : ∀ x, p x = true → x.isActive = true) :
    Completes s (s.completeEach (s.slotsAt st p) r) (s.slotsAt st p) r :=
  completes_completeEach r (State.nodup_slotsAt h st p)
    (fun _ hi => SlotState.canComplete_of_isActive (hp _ (State.slotsAt_state hi)))
    (State.nodup_lists h).1 (State.nodup_lists h).2

end Sys2Proof.Machine

/-! The report of a frame in RUNNING: which outcome a command gives the frame in flight, what every reply and every failure
changes, and the slot's own rule on the state after it (R52, R58, R61, R72, R101, R135, R180). -/

namespace Sys2Proof.Machine

/-! ## The outcome that a command gives the frame in flight -/

/-- The outcome with which a command ends a frame that it fails. -/
def failureOf : Instr → FrameOutcome
  | .replyTimeout => .silent
  | .violationReply => .violation
  | _ => .garbled

theorem State.gapAtTimeout_eq {s : State} {f : Frame} {n : Nat} (hl : s.link.isUp = true) (hf : f.replyTimer = some n) :
    s.gapAtTimeout n = s.gapAfter f .replyTimeout := by
  have hrate : s.lineRate = s.takenRate := by
    cases h : s.link <;> simp [h, LinkState.isUp] at hl <;> simp [State.lineRate, h]
  have hclocks : s.takenRate.gapClocks = 40 * s.takenRate.bitClocks := by
    simp only [BitRate.gapClocks, Config.gapByteTimes, Config.bitsPerByte]
    omega
  simp [State.gapAtTimeout, State.gapAfter, hrate, hf, hclocks, Config.replyStepClocks]

/-- A command that fails the frame in flight reports it with its outcome; after a silent timeout the scheduler looks at the
line. -/
theorem exec_of_failsBy {s : State} {f : Frame} {c : Instr} (h : s.failsBy f c) (hl : s.link.isUp = true) :
    exec c s = .next ((s.report f (s.gapAfter f c) (failureOf c)).afterReport c) := by
  obtain ⟨hf, ⟨hp, rfl | rfl⟩ | ⟨hp, ht, rfl⟩⟩ := h
  · simp only [exec, execGarbledReply, State.takeReceived, hf, hp]
    rfl
  · simp only [exec, execViolationReply, State.takeReceived, hf, hp]
    rfl
  · obtain ⟨n, hn⟩ := Option.ne_none_iff_exists'.mp ht
    simp only [exec, execReplyTimeout, hf, hp, hn, State.gapAtTimeout_eq hl hn]
    rfl

/-- A reply row reports the frame in RECEIVING: valid, or a violation where a check of R57 fails. -/
theorem exec_reply {s : State} {f : Frame} {r : Reply} (hf : s.frame = some f) (hp : f.phase = .receiving)
    (hg : ∀ payload, r = .give payload → payload.length ≤ 64) :
    exec r.command s = .next (s.report f false (if s.replyValid f r then .valid r else .violation)) := by
  have htake : s.takeReply r = s.report f false (if s.replyValid f r then .valid r else .violation) := by
    simp only [State.takeReply, State.takeReceived, hf, hp]
  cases r with
  | give payload =>
    show execGive payload s = _
    rw [execGive, if_pos (show payload.length ≤ Config.segmentBytes from hg payload rfl), htake]
  | _ => exact congrArg _ htake

/-! ## The slot that takes the report -/

/-- The frame that a QUEUED or OPEN slot offers is the one the scheduler would choose for it. -/
theorem Slot.nextFrame_of_offers {x : Slot} {f : Frame} (h : x.offers f) :
    x.state ≠ .parked ∧ x.nextFrame = some (f.kind, f.index) := by
  rcases h with ⟨hs, hk, hi⟩ | ⟨hs, hp, hd, hk, hi⟩ | ⟨hs, hp, hd, hk, hi⟩ | ⟨hs, hp, hk, hi⟩
  · simp [Slot.nextFrame, hs, hk, hi]
  · simp [Slot.nextFrame, Slot.exchangeFrame, hs, hp, hd, hk, hi]
  · simp [Slot.nextFrame, Slot.exchangeFrame, hs, hp, hd, hk, hi]
  · simp [Slot.nextFrame, Slot.exchangeFrame, hs, hp, hk, hi]

theorem Slot.takes_of_offers {x : Slot} {f : Frame} (h : x.offers f) : x.Takes f.kind f.index :=
  ⟨(Slot.nextFrame_of_offers h).1, (Slot.nextFrame_of_offers h).2⟩

theorem Slot.offers_kind {x : Slot} {f : Frame} (h : x.offers f) :
    f.kind ≠ .sync ∧ f.kind ≠ .poll ∧ f.kind ≠ .abort := by
  rcases h with ⟨-, hk, -⟩ | ⟨-, -, -, hk, -⟩ | ⟨-, -, -, hk, -⟩ | ⟨-, -, hk, -⟩ <;> simp [hk]

theorem Slot.takes_abort {x : Slot} {f : Frame} (hk : f.kind = .abort) (hi : f.index = 0) (hs : x.state = .aborting) :
    x.Takes f.kind f.index := ⟨by simp [hs], by simp [Slot.nextFrame, hs, hk, hi]⟩

theorem State.slotTaking_eq {s : State} {f : Frame} {i : SlotId} (hf : f.slot = some i)
    (hfl : (s.slot i).inFlight = true) (ht : (s.slot i).Takes f.kind f.index) : s.slotTaking f = some i := by
  simp [State.slotTaking, hf, hfl, ht.notParked, ht.offers]

/-- A slot whose in-flight flag a withdrawal has cleared takes no report (R101). -/
theorem State.slotTaking_of_detached {s : State} {f : Frame} {i : SlotId} (hf : f.slot = some i)
    (hfl : (s.slot i).inFlight = false) : s.slotTaking f = none := by
  simp [State.slotTaking, hf, hfl]

/-! ## The silent count stands apart from the tables -/

/-- The silent count changed alone. -/
def State.withSilent (s : State) (n : Nat) : State := { s with silentCount := n }

theorem State.withSilent_modSlot (s : State) (n : Nat) (i : SlotId) (f : Slot → Slot) :
    (s.withSilent n).modSlot i f = (s.modSlot i f).withSilent n := rfl

theorem State.withSilent_modStation (s : State) (n : Nat) (st : StationId) (f : Station → Station) :
    (s.withSilent n).modStation st f = (s.modStation st f).withSilent n := rfl

theorem State.withSilent_countPayload (s : State) (n k : Nat) :
    (s.withSilent n).countPayload k = (s.countPayload k).withSilent n := rfl

theorem State.slot_withSilent (s : State) (n : Nat) (i : SlotId) : (s.withSilent n).slot i = s.slot i := rfl

theorem State.withSilent_complete (s : State) (n : Nat) (i : SlotId) (r : Result) :
    (s.withSilent n).complete i r = (s.complete i r).withSilent n := by
  cases hc : (s.slot i).state.canComplete with
  | false => rw [State.complete_other hc, State.complete_other (by exact hc)]
  | true =>
    rw [State.complete_eq_update hc, State.complete_eq_update (by exact hc)]
    rfl

theorem State.withSilent_completePending (s : State) (n : Nat) (i : SlotId) (b : Bool) :
    (s.withSilent n).completePending i b = (s.completePending i b).withSilent n := by
  unfold State.completePending
  rw [show (s.withSilent n).slot i = s.slot i from rfl]
  cases (s.slot i).pendingOutcome with
  | some o => exact s.withSilent_complete n i _
  | none => rfl

theorem State.withSilent_enterAborting (s : State) (n : Nat) (i : SlotId) (o : Ending) :
    (s.withSilent n).enterAborting i o = (s.enterAborting i o).withSilent n := by
  unfold State.enterAborting
  rw [show (s.withSilent n).slot i = s.slot i from rfl]
  cases hst : (s.slot i).desc.stationId with
  | some st =>
    simp only [hst, State.leaveParked_eq]
    rfl
  | none =>
    simp only [hst]
    rfl

theorem State.withSilent_resolveStop (s : State) (n : Nat) (i : SlotId) (f : State → State)
    (hf : f (s.withSilent n) = (f s).withSilent n) :
    (s.withSilent n).resolveStop i f = (s.resolveStop i f).withSilent n := by
  unfold State.resolveStop
  rw [show (s.withSilent n).slot i = s.slot i from rfl]
  cases (s.slot i).stopRequest with
  | some k => exact s.withSilent_enterAborting n i _
  | none => exact hf

theorem State.withSilent_startPollTimer (s : State) (n : Nat) (st : StationId) :
    (s.withSilent n).startPollTimer st = (s.startPollTimer st).withSilent n := by
  unfold State.startPollTimer
  rw [show (s.withSilent n).station st = s.station st from rfl]
  by_cases h : (s.station st).pollTimer = .stopped
  · rw [if_pos h, if_pos h]
    rfl
  · rw [if_neg h, if_neg h]

/-- The slot's busy counts and possibly opened flag after a WAIT (R106, R140). -/
def Slot.afterWait (kind : FrameKind) (x : Slot) : Slot := if kind = .openReq then x.countBusy.waitToOpen else x.countBusy

/-- How a WAIT ends once the counts have changed: by the held stop, by the busy allowance, or not at all (R141, R147, R148). -/
def State.endWait (s : State) (i : SlotId) (noContext ranOut : Bool) : State :=
  match (s.slot i).stopRequest with
  | some k => if noContext then s.complete i { outcome := k.ending } else s.enterAborting i k.ending
  | none =>
    if ranOut then if noContext then s.complete i { outcome := .busyLimit } else s.enterAborting i .busyLimit
    else s

theorem State.slotWait_eq (s : State) (i : SlotId) (kind : FrameKind) :
    s.slotWait i kind = (s.modSlot i (Slot.afterWait kind)).endWait i
      (decide (kind = .openReq) && !((s.modSlot i (Slot.afterWait kind)).slot i).possiblyOpened)
      (s.slot i).busyRunsOut := rfl

theorem State.withSilent_endWait (s : State) (n : Nat) (i : SlotId) (noContext ranOut : Bool) :
    (s.withSilent n).endWait i noContext ranOut = (s.endWait i noContext ranOut).withSilent n := by
  unfold State.endWait
  rw [State.slot_withSilent]
  cases (s.slot i).stopRequest with
  | some k =>
    cases noContext with
    | true => exact s.withSilent_complete n i _
    | false => exact s.withSilent_enterAborting n i _
  | none =>
    cases ranOut with
    | false => rfl
    | true =>
      cases noContext with
      | true => exact s.withSilent_complete n i _
      | false => exact s.withSilent_enterAborting n i _

theorem State.withSilent_slotWait (s : State) (n : Nat) (i : SlotId) (kind : FrameKind) :
    (s.withSilent n).slotWait i kind = (s.slotWait i kind).withSilent n := by
  rw [State.slotWait_eq, State.slotWait_eq, State.withSilent_modSlot, State.withSilent_endWait]
  rfl

theorem State.withSilent_slotValid (s : State) (n : Nat) (i : SlotId) (f : Frame) (r : Reply) :
    (s.withSilent n).slotValid i f r = (s.slotValid i f r).withSilent n := by
  cases r with
  | present _ | nothing | ready _ => rfl
  | accept =>
    simp only [State.slotValid, State.slotAccept, State.withSilent_modSlot, State.withSilent_modStation]
    exact State.withSilent_resolveStop _ n i _ rfl
  | refuse v => exact (s.modSlot i fun x => { x with possiblyOpened := false }).withSilent_complete n i _
  | taken =>
    simp only [State.slotValid, State.slotTaken, State.withSilent_modSlot, State.withSilent_countPayload,
      State.slot_withSilent]
    exact State.withSilent_resolveStop _ n i _ rfl
  | give payload =>
    exact State.withSilent_resolveStop ((({ s with
      mem := chainPutAll s.mem (s.slot i).chain (Config.segmentBytes * (s.slot i).nextIndex) payload } : State).modSlot i
        fun y => y.afterGive payload.length).countPayload payload.length) n i id rfl
  | result v => exact s.withSilent_complete n i _
  | wait => exact s.withSilent_slotWait n i f.kind
  | park =>
    simp only [State.slotValid, State.slotPark, State.withSilent_modStation]
    refine State.withSilent_resolveStop _ n i _ ?_
    simp only [State.withSilent_modSlot, State.withSilent_modStation, State.withSilent_startPollTimer]
  | done => exact s.withSilent_completePending n i false

theorem State.withSilent_slotFailed (s : State) (n : Nat) (i : SlotId) (violation : Bool) :
    (s.withSilent n).slotFailed i violation = (s.slotFailed i violation).withSilent n := by
  refine State.withSilent_resolveStop _ n i _ ?_
  rw [show (s.withSilent n).slot i = s.slot i from rfl]
  split_ifs
  · exact s.withSilent_enterAborting n i _
  · rfl
  · exact s.withSilent_complete n i _

/-! ## What the tables' part of a report can change -/

/-- From `s` to `t` nothing has changed but the tables, the pool, the stations and the statistics: the link, the line, the
configuration and the host's registers are as before; and no record has left the queue. -/
structure ReportScope (s t : State) : Prop where
  rest : t = { s with
    slots := t.slots, urgent := t.urgent, normal := t.normal, freeList := t.freeList, mem := t.mem, queue := t.queue
    seqCounter := t.seqCounter, unannounced := t.unannounced, stations := t.stations, stats := t.stats }
  queue : s.queue <+: t.queue

theorem ReportScope.refl (s : State) : ReportScope s s := ⟨rfl, List.prefix_rfl⟩

theorem ReportScope.trans {s t u : State} (h : ReportScope s t) (k : ReportScope t u) : ReportScope s u :=
  ⟨Eq.trans k.rest (by rw [h.rest]), h.queue.trans k.queue⟩

theorem ReportScope.link {s t : State} (h : ReportScope s t) : t.link = s.link := by
  rw [h.rest]

theorem ReportScope.cfg {s t : State} (h : ReportScope s t) : t.cfg = s.cfg := by
  rw [h.rest]

theorem ReportScope.frame {s t : State} (h : ReportScope s t) : t.frame = s.frame := by
  rw [h.rest]

theorem ReportScope.silentCount {s t : State} (h : ReportScope s t) : t.silentCount = s.silentCount := by
  rw [h.rest]

theorem reportScope_modSlot (s : State) (i : SlotId) (f : Slot → Slot) : ReportScope s (s.modSlot i f) :=
  ⟨rfl, List.prefix_rfl⟩

theorem reportScope_modStation (s : State) (st : StationId) (f : Station → Station) :
    ReportScope s (s.modStation st f) := ⟨rfl, List.prefix_rfl⟩

theorem reportScope_complete (s : State) (i : SlotId) (r : Result) : ReportScope s (s.complete i r) := by
  cases hc : (s.slot i).state.canComplete with
  | false => rw [State.complete_other hc]; exact .refl s
  | true =>
    rw [State.complete_eq_update hc]
    exact ⟨rfl, List.prefix_append _ _⟩

theorem reportScope_completeEach (ids : List SlotId) (r : SlotId → Result) (s : State) :
    ReportScope s (s.completeEach ids r) := by
  induction ids generalizing s with
  | nil => exact .refl s
  | cons i ids ih => exact (reportScope_complete s i (r i)).trans (ih _)

theorem reportScope_completeAll (s : State) (ids : List SlotId) (o : Ending) : ReportScope s (s.completeAll ids o) :=
  reportScope_completeEach ids _ s

theorem reportScope_completePending (s : State) (i : SlotId) (b : Bool) : ReportScope s (s.completePending i b) := by
  unfold State.completePending
  split
  · exact reportScope_complete s i _
  · exact .refl s

theorem reportScope_foldl (f : State → SlotId → State) (hf : ∀ s i, ReportScope s (f s i)) (ids : List SlotId)
    (s : State) : ReportScope s (ids.foldl f s) := by
  induction ids generalizing s with
  | nil => exact .refl s
  | cons i ids ih => exact (hf s i).trans (ih _)

theorem reportScope_leaveParked (s : State) (st : StationId) (i : SlotId) : ReportScope s (s.leaveParked st i) := by
  rw [State.leaveParked_eq]
  exact ⟨rfl, List.prefix_rfl⟩

theorem reportScope_enterAborting (s : State) (i : SlotId) (o : Ending) : ReportScope s (s.enterAborting i o) := by
  unfold State.enterAborting
  dsimp only
  split
  · exact (reportScope_modSlot s i _).trans (reportScope_leaveParked _ _ i)
  · exact ⟨rfl, List.prefix_rfl⟩

theorem reportScope_resolveStop {s : State} (i : SlotId) {f : State → State} (h : ReportScope s (f s)) :
    ReportScope s (s.resolveStop i f) := by
  unfold State.resolveStop
  split
  · exact reportScope_enterAborting s i _
  · exact h

theorem reportScope_startPollTimer (s : State) (st : StationId) : ReportScope s (s.startPollTimer st) := by
  unfold State.startPollTimer
  split <;> exact ⟨rfl, List.prefix_rfl⟩

theorem reportScope_restartPollTimer (s : State) (st : StationId) : ReportScope s (s.restartPollTimer st) := by
  unfold State.restartPollTimer
  split <;> exact ⟨rfl, List.prefix_rfl⟩

theorem reportScope_endWait (s : State) (i : SlotId) (noContext ranOut : Bool) :
    ReportScope s (s.endWait i noContext ranOut) := by
  unfold State.endWait
  split
  · split
    · exact reportScope_complete s i _
    · exact reportScope_enterAborting s i _
  · split
    · split
      · exact reportScope_complete s i _
      · exact reportScope_enterAborting s i _
    · exact .refl s

theorem reportScope_slotWait (s : State) (i : SlotId) (kind : FrameKind) : ReportScope s (s.slotWait i kind) :=
  (reportScope_modSlot s i (Slot.afterWait kind)).trans (reportScope_endWait _ i _ _)

theorem reportScope_slotValid (s : State) (i : SlotId) (f : Frame) (r : Reply) : ReportScope s (s.slotValid i f r) := by
  cases r with
  | present _ | nothing | ready _ => exact .refl s
  | accept =>
    unfold State.slotValid State.slotAccept
    refine ReportScope.trans ?_ (reportScope_resolveStop i ?_) <;> exact ⟨rfl, List.prefix_rfl⟩
  | refuse v => exact (reportScope_modSlot s i _).trans (reportScope_complete _ i _)
  | taken =>
    unfold State.slotValid State.slotTaken
    refine ReportScope.trans ?_ (reportScope_resolveStop i ?_) <;> exact ⟨rfl, List.prefix_rfl⟩
  | give payload =>
    unfold State.slotValid State.slotGive
    refine ReportScope.trans ?_ (reportScope_resolveStop i ?_) <;> exact ⟨rfl, List.prefix_rfl⟩
  | result v => exact reportScope_complete s i _
  | wait => exact reportScope_slotWait s i _
  | park =>
    unfold State.slotValid State.slotPark
    refine ReportScope.trans ?_ (reportScope_resolveStop i (ReportScope.trans ?_ (reportScope_startPollTimer _ _))) <;>
      exact ⟨rfl, List.prefix_rfl⟩
  | done => exact reportScope_completePending s i false

theorem reportScope_slotFailed (s : State) (i : SlotId) (violation : Bool) :
    ReportScope s (s.slotFailed i violation) := by
  refine reportScope_resolveStop i ?_
  split_ifs
  · exact reportScope_enterAborting s i _
  · exact ⟨rfl, List.prefix_rfl⟩
  · exact reportScope_complete s i _

theorem reportScope_faultStep (s : State) (st : StationId) {cause : State → State}
    (h : ∀ t, ReportScope t (cause t)) : ReportScope s (s.faultStep st cause) :=
  (reportScope_modStation s st _).trans ((h _).trans (reportScope_completeAll _ _ _))

theorem reportScope_endAbort (s : State) (i : SlotId) (violation : Bool) : ReportScope s (s.endAbort i violation) :=
  (reportScope_modSlot s i _).trans (reportScope_completePending _ i true)

theorem reportScope_completeCause (s : State) (i : SlotId) (kind : FrameKind) (violation : Bool) :
    ReportScope s (s.completeCause i kind violation) := by
  cases kind with
  | sync | poll => exact .refl s
  | abort => exact reportScope_endAbort s i violation
  | openReq | send | pull | finish => exact reportScope_complete s i _

theorem reportScope_slotFailure (s : State) (i : SlotId) (f : Frame) (violation : Bool) :
    ReportScope s (s.slotFailure i f violation) := by
  unfold State.slotFailure
  split
  case h_1 =>
    unfold State.abortFailed
    split
    · exact reportScope_faultStep s _ fun t => reportScope_endAbort t i violation
    · exact ⟨rfl, List.prefix_rfl⟩
  case h_6 | h_7 => exact .refl s
  all_goals exact reportScope_slotFailed s i violation

theorem reportScope_clearFailures (s : State) (st : StationId) : ReportScope s (s.clearFailures st) := by
  unfold State.clearFailures
  split <;> exact ⟨rfl, List.prefix_rfl⟩

theorem reportScope_countFailure (s : State) (st : StationId) : ReportScope s (s.countFailure st) := by
  unfold State.countFailure
  split <;> exact ⟨rfl, List.prefix_rfl⟩

theorem reportScope_startBackoff (s : State) (st : StationId) : ReportScope s (s.startBackoff st) := by
  unfold State.startBackoff
  split <;> exact ⟨rfl, List.prefix_rfl⟩

theorem reportScope_finishWithdrawal (s : State) (st : StationId) : ReportScope s (s.finishWithdrawal st) :=
  (reportScope_modStation s st _).trans (reportScope_completeAll _ _ _)

theorem reportScope_reportSync (s : State) (st : StationId) (o : FrameOutcome) : ReportScope s (s.reportSync st o) := by
  unfold State.reportSync
  split
  case h_1 =>
    exact (reportScope_modStation s st _).trans
      ((reportScope_foldl _ (fun t i => reportScope_completePending t i false) _ _).trans
        (reportScope_foldl _ (fun t i => reportScope_modSlot t i _) _ _))
  case h_2 =>
    unfold State.probeFailed
    dsimp only
    split
    · exact (reportScope_modStation s st _).trans (reportScope_completeAll _ _ _)
    · exact ⟨rfl, List.prefix_rfl⟩
  case h_3 => exact reportScope_finishWithdrawal s st
  case h_4 =>
    unfold State.withdrawFailed
    split
    · exact reportScope_finishWithdrawal s st
    · exact ⟨rfl, List.prefix_rfl⟩
  all_goals exact .refl s

theorem reportScope_takeReady (s : State) (st : StationId) (tag : SlotId) : ReportScope s (s.takeReady st tag) := by
  unfold State.takeReady
  split <;> exact ⟨rfl, List.prefix_rfl⟩

theorem reportScope_reportPoll (s : State) (st : StationId) (o : FrameOutcome) : ReportScope s (s.reportPoll st o) := by
  unfold State.reportPoll
  split
  · refine (reportScope_clearFailures s st).trans (.trans ?_ (reportScope_restartPollTimer _ st))
    split
    · exact reportScope_takeReady _ st _
    · exact .refl _
  · refine (reportScope_countFailure s st).trans ?_
    dsimp only
    split
    · exact reportScope_faultStep _ st fun t => .refl t
    · exact reportScope_restartPollTimer _ st

theorem reportScope_reportFailure (s : State) (f : Frame) (tk : Option SlotId) (violation : Bool) :
    ReportScope s (s.reportFailure f tk violation) := by
  unfold State.reportFailure
  refine (reportScope_countFailure s f.station).trans ?_
  dsimp only
  split
  · refine reportScope_faultStep _ _ fun t => ?_
    split
    · exact reportScope_completeCause t _ _ _
    · exact .refl t
  · split
    · exact reportScope_slotFailure _ _ f violation
    · exact .refl _

theorem reportScope_reportValid (s : State) (f : Frame) (tk : Option SlotId) (r : Reply) :
    ReportScope s (s.reportValid f tk r) := by
  have hbase : ReportScope s (if r = .wait then (s.clearFailures f.station).startBackoff f.station
      else s.clearFailures f.station) := by
    split
    · exact (reportScope_clearFailures s _).trans (reportScope_startBackoff _ _)
    · exact reportScope_clearFailures s _
  unfold State.reportValid
  dsimp only
  refine hbase.trans ?_
  cases tk with
  | some i => exact reportScope_slotValid _ _ f r
  | none => exact .refl _

/-- The tables take a report within their scope. -/
theorem reportScope_reportTables (s : State) (f : Frame) (tk : Option SlotId) (o : FrameOutcome) :
    ReportScope s (s.reportTables f tk o) := by
  unfold State.reportTables
  split
  case h_1 => exact reportScope_reportSync s _ _
  case h_2 => exact reportScope_reportPoll s _ _
  case h_3 => exact reportScope_reportValid s f tk _
  all_goals exact reportScope_reportFailure s f tk _

/-! ## Reports that leave the link as it is -/

/-- In RUNNING a report of a frame other than SYNC leaves the link, while the silent count is below the link-loss threshold. -/
theorem State.reportLink_running {s : State} {kind : FrameKind} {o : FrameOutcome} (hl : s.link = .running)
    (hk : kind ≠ .sync) (hc : countsSilent kind o = true → s.silentCount < s.cfg.linkLossThreshold) :
    s.reportLink kind o = s := by
  have hnot : ¬ (countsSilent kind o = true ∧ s.cfg.linkLossThreshold ≤ s.silentCount ∧
      (s.link = .running ∨ s.link = .stopping)) := fun ⟨h, hle, _⟩ => absurd (hc h) (not_lt.mpr hle)
  rw [State.reportLink, if_neg hnot, if_neg (by simp [hl]), if_neg hk]

/-- The end of a slot's frame as one record update. -/
theorem State.counted_eq {s : State} {f : Frame} {i : SlotId} (hf : f.slot = some i) (gap : Bool) (o : FrameOutcome) :
    s.counted f gap o = { s with
      frame := none
      gapPassed := gap
      receiver := .waiting
      stats := s.stats.countOutcome o
      slots := s.slots.set i.val { s.slot i with inFlight := false } } := by
  simp only [State.counted, State.endFrame, hf]
  rfl

/-- The end of a station's frame as one record update. -/
theorem State.counted_eq_of_noSlot {s : State} {f : Frame} (hf : f.slot = none) (gap : Bool) (o : FrameOutcome) :
    s.counted f gap o = { s with
      frame := none, gapPassed := gap, receiver := .waiting, stats := s.stats.countOutcome o } := by
  simp only [State.counted, State.endFrame, hf]

/-- What a valid reply changes before the slot's own rule is taken: a WAIT is counted and starts the backoff timer (R61, R75). -/
def State.replyBase (s : State) (f : Frame) (i : SlotId) (r : Reply) : State :=
  if r = .wait then
    { s.replyTaken f i with
      stations := (s.replyTaken f i).stations.set f.station.val
        { s.station f.station with failures := 0, backoff := some s.cfg.backoffInterval }
      stats := { (s.replyTaken f i).stats with waitReplies := s.stats.waitReplies + 1 } }
  else s.replyTaken f i

theorem Stats.countOutcome_valid (c : Stats) (r : Reply) : c.countOutcome (.valid r) =
    { c with
      validReplies := c.validReplies + 1
      waitReplies := if r = .wait then c.waitReplies + 1 else c.waitReplies } := by
  cases r <;> rfl

/-- In RUNNING a report of a frame other than SYNC ends with what the tables took, while the silent count stays below the
link-loss threshold. -/
theorem State.report_running {s : State} {f : Frame} {gap : Bool} {o : FrameOutcome} (hl : s.link = .running)
    (hk : f.kind ≠ .sync) (hc : o = .silent → s.silentCount + 1 < s.cfg.linkLossThreshold) :
    s.report f gap o = (s.told f gap o).announceSince s := by
  have hscope : ReportScope (s.counted f gap o) ((s.counted f gap o).reportTables f (s.slotTaking f) o) :=
    reportScope_reportTables _ f _ o
  have hcounted : (s.counted f gap o).link = s.link ∧ (s.counted f gap o).cfg = s.cfg ∧
      (s.counted f gap o).silentCount = s.silentCount := by
    unfold State.counted State.endFrame
    split <;> exact ⟨rfl, rfl, rfl⟩
  obtain ⟨hlink, hcfg, hsilent⟩ := hcounted
  have hcount : countsSilent f.kind o = true → (s.told f gap o).silentCount < (s.told f gap o).cfg.linkLossThreshold := by
    intro h
    have ho : o = .silent := by
      simp only [countsSilent, Bool.and_eq_true, decide_eq_true_eq] at h
      exact h.1
    show nextSilentCount ((s.counted f gap o).reportTables f (s.slotTaking f) o).silentCount f.kind o <
      ((s.counted f gap o).reportTables f (s.slotTaking f) o).cfg.linkLossThreshold
    rw [hscope.silentCount, hscope.cfg, hcfg, hsilent, ho]
    simpa [nextSilentCount, hk] using hc ho
  have htold : (s.told f gap o).link = .running := hscope.link.trans (hlink.trans hl)
  rw [State.report_eq, State.reportLink_running htold hk hcount]

/-- A valid reply to the frame of an ONLINE station in RUNNING: what every valid reply changes, then the slot's rule. -/
theorem State.report_valid {s : State} {f : Frame} {i : SlotId} {r : Reply} (hs : s.serves f i)
    (ht : (s.slot i).Takes f.kind f.index) (hk : f.kind ≠ .sync ∧ f.kind ≠ .poll) :
    s.report f false (.valid r) = ((s.replyBase f i r).slotValid i f r).announceSince s := by
  obtain ⟨hl, hf, hfs, hfl, hst, hon⟩ := hs
  have hon' : s.stations[f.station.val].state = .online := hon
  have htold : s.told f false (.valid r) = (s.replyBase f i r).slotValid i f r := by
    have hbase : (if r = .wait then
        ((s.counted f false (.valid r)).clearFailures f.station).startBackoff f.station
        else (s.counted f false (.valid r)).clearFailures f.station).withSilent 0 = s.replyBase f i r := by
      rw [State.counted_eq hfs, Stats.countOutcome_valid]
      by_cases hw : r = .wait
      · simp [hw, State.replyBase, State.replyTaken, State.withSilent, State.clearFailures, State.startBackoff,
          State.station, State.modStation, State.setStation, hon']
      · simp [hw, State.replyBase, State.replyTaken, State.withSilent, State.clearFailures, State.station,
          State.modStation, State.setStation, hon']
    have htables : (s.counted f false (.valid r)).reportTables f (s.slotTaking f) (.valid r) =
        (s.counted f false (.valid r)).reportValid f (some i) r := by
      rw [State.slotTaking_eq hfs hfl ht]
      unfold State.reportTables
      split <;> simp_all
    rw [State.told, htables, ← hbase, State.withSilent_slotValid]
    rfl
  rw [State.report_running hl hk.1 (by simp), htold]

/-! ## Failed replies -/

theorem State.withSilent_completeEach (n : Nat) (ids : List SlotId) (r : SlotId → Result) (s : State) :
    (s.withSilent n).completeEach ids r = (s.completeEach ids r).withSilent n := by
  induction ids generalizing s with
  | nil => rfl
  | cons i ids ih => rw [State.completeEach_cons, State.completeEach_cons, State.withSilent_complete, ih]

theorem State.withSilent_endAbort (s : State) (n : Nat) (i : SlotId) (violation : Bool) :
    (s.withSilent n).endAbort i violation = (s.endAbort i violation).withSilent n :=
  State.withSilent_completePending (s.modSlot i fun x =>
    { x with abortAttempts := if x.abortEnds violation then 0 else x.abortAttempts }) n i true

theorem State.withSilent_completeCause (s : State) (n : Nat) (i : SlotId) (kind : FrameKind) (violation : Bool) :
    (s.withSilent n).completeCause i kind violation = (s.completeCause i kind violation).withSilent n := by
  cases kind with
  | sync | poll => rfl
  | abort => exact s.withSilent_endAbort n i violation
  | openReq | send | pull | finish => exact s.withSilent_complete n i _

theorem State.withSilent_faultStep (s : State) (n : Nat) (st : StationId) {cause : State → State}
    (h : ∀ t, cause (State.withSilent t n) = (cause t).withSilent n) :
    (s.withSilent n).faultStep st cause = (s.faultStep st cause).withSilent n := by
  simp only [State.faultStep, State.withSilent_modStation, h]
  exact State.withSilent_completeEach n _ _ _

theorem State.withSilent_slotFailure (s : State) (n : Nat) (i : SlotId) (f : Frame) (violation : Bool) :
    (s.withSilent n).slotFailure i f violation = (s.slotFailure i f violation).withSilent n := by
  unfold State.slotFailure
  split
  case h_1 =>
    unfold State.abortFailed
    rw [State.slot_withSilent]
    by_cases h : (s.slot i).abortEnds violation = true
    · rw [if_pos h, if_pos h]
      exact s.withSilent_faultStep n _ fun t => t.withSilent_endAbort n i violation
    · rw [if_neg h, if_neg h]
      rfl
  case h_6 | h_7 => rfl
  all_goals exact s.withSilent_slotFailed n i violation

theorem failureOf_of_failsBy {s : State} {f : Frame} {c : Instr} (h : s.failsBy f c) :
    (failureOf c = .violation ↔ c = .violationReply) ∧ (failureOf c = .silent ↔ c = .replyTimeout) ∧
    ∀ r, failureOf c ≠ .valid r := by
  obtain ⟨-, ⟨-, rfl | rfl⟩ | ⟨-, -, rfl⟩⟩ := h <;> simp [failureOf]

/-- What the tables take of a failed reply: the failure is counted, and at the threshold the fault step stands in place of the
slot's own rule (R72, R73, R135). -/
theorem State.told_failed {s : State} {f : Frame} {i : SlotId} {c : Instr} (hs : s.serves f i) (hc : s.failsBy f c)
    (ht : (s.slot i).Takes f.kind f.index) (hk : f.kind ≠ .sync ∧ f.kind ≠ .poll) :
    let u := s.failureTaken f i (decide (c = .violationReply)) (s.gapAfter f c) (s.silentAfter c)
    s.told f (s.gapAfter f c) (failureOf c) =
      if s.cfg.faultThreshold ≤ (s.station f.station).failures + 1 then
        u.faultStep f.station fun t => t.completeCause i f.kind (decide (c = .violationReply))
      else u.slotFailure i f (decide (c = .violationReply)) := by
  obtain ⟨hl, hf, hfs, hfl, hst, hon⟩ := hs
  have hon' : s.stations[f.station.val].state = .online := hon
  obtain ⟨hviol, hsilent, hvalid⟩ := failureOf_of_failsBy hc
  have hstats : s.stats.countOutcome (failureOf c) = { s.stats with
      failedReplies := if c = .violationReply then s.stats.failedReplies else s.stats.failedReplies + 1 } := by
    obtain ⟨-, ⟨-, rfl | rfl⟩ | ⟨-, -, rfl⟩⟩ := hc <;> rfl
  have hcount : nextSilentCount s.silentCount f.kind (failureOf c) = s.silentAfter c := by
    simp only [nextSilentCount, hsilent, hk.1, if_false, State.silentAfter]
  have hbase : ((s.counted f (s.gapAfter f c) (failureOf c)).countFailure f.station).withSilent (s.silentAfter c) =
      s.failureTaken f i (decide (c = .violationReply)) (s.gapAfter f c) (s.silentAfter c) := by
    rw [State.counted_eq hfs, hstats]
    simp [State.failureTaken, State.withSilent, State.countFailure, State.station, State.modStation, State.setStation, hon']
  have htables : (s.counted f (s.gapAfter f c) (failureOf c)).reportTables f (s.slotTaking f) (failureOf c) =
      (s.counted f (s.gapAfter f c) (failureOf c)).reportFailure f (some i) (decide (c = .violationReply)) := by
    rw [State.slotTaking_eq hfs hfl ht]
    obtain ⟨-, ⟨-, rfl | rfl⟩ | ⟨-, -, rfl⟩⟩ := hc <;> cases hkind : f.kind <;>
      simp_all [State.reportTables, failureOf]
  have hscope := reportScope_reportFailure (s.counted f (s.gapAfter f c) (failureOf c)) f (some i)
    (decide (c = .violationReply))
  have hsame : (s.counted f (s.gapAfter f c) (failureOf c)).silentCount = s.silentCount := by rw [State.counted_eq hfs]
  have hreached : ((s.counted f (s.gapAfter f c) (failureOf c)).countFailure f.station).faultReached f.station =
      decide (s.cfg.faultThreshold ≤ (s.station f.station).failures + 1) := by
    have hu : (s.failureTaken f i (decide (c = .violationReply)) (s.gapAfter f c) (s.silentAfter c)).faultReached
        f.station = decide (s.cfg.faultThreshold ≤ (s.station f.station).failures + 1) := by
      have hstation : (s.failureTaken f i (decide (c = .violationReply)) (s.gapAfter f c) (s.silentAfter c)).station
          f.station = { s.station f.station with failures := (s.station f.station).failures + 1 } := by
        simp [State.failureTaken, State.station]
      rw [State.faultReached, hstation, hon, decide_eq_true rfl, Bool.true_and]
      rfl
    rw [← hu, ← hbase]
    rfl
  have htold : s.told f (s.gapAfter f c) (failureOf c) = ((s.counted f (s.gapAfter f c) (failureOf c)).reportFailure f
      (some i) (decide (c = .violationReply))).withSilent (s.silentAfter c) := by
    rw [State.told, htables, hscope.silentCount, hsame, hcount]
    rfl
  rw [htold, State.reportFailure]
  dsimp only
  rw [hreached, ← hbase]
  by_cases hthr : s.cfg.faultThreshold ≤ (s.station f.station).failures + 1
  · rw [if_pos (by simpa using hthr), if_pos hthr]
    exact (State.withSilent_faultStep _ _ _ fun t => t.withSilent_completeCause _ _ _ _).symm
  · rw [if_neg (by simpa using hthr), if_neg hthr]
    exact (State.withSilent_slotFailure _ _ _ _ _).symm

end Sys2Proof.Machine

/-! The reports of a slot's frame: the replies it takes and the failures that leave its station below the fault threshold
(R101 to R118, R135 to R153). -/

namespace Sys2Proof.Machine

/-! ## Forms -/

theorem State.serves_of_receives {s : State} {f : Frame} {i : SlotId} (h : s.receives f i) : s.serves f i := by
  obtain ⟨hl, hf, -, hfs, hfl, hst, hon⟩ := h
  exact ⟨hl, hf, hfs, hfl, hst, hon⟩

/-- An event that appended no record makes no coalescing decision. -/
theorem State.announceSince_of_queue {s t : State} (h : t.queue = s.queue) : t.announceSince s = t :=
  State.announceSince_same (by rw [h])

/-- A slot that is not parked keeps its station's record when it enters ABORTING. -/
theorem State.enterAborting_of_unparked {s : State} {i : SlotId} (o : Ending)
    (h : ∀ st, (s.slot i).desc.stationId = some st → i ∉ (s.station st).parked) :
    s.enterAborting i o = s.modSlot i fun x => x.toAborting o := by
  unfold State.enterAborting
  dsimp only
  split
  · rename_i st hst
    exact State.leaveParked_of_not_mem (by simpa using h st hst)
  · rfl

/-- The one record of a completion is announced at the end of the event. -/
theorem State.announceSince_complete {s t : State} {i : SlotId} (r : Result) (hc : (t.slot i).state.canComplete = true)
    (hq : t.queue = s.queue) : (t.complete i r).announceSince s = (t.complete i r).coalesce :=
  State.announceSince_grown (by rw [State.complete_queue hc, hq]; simp)

theorem State.resolveStop_of_none {s : State} {i : SlotId} (h : (s.slot i).stopRequest = none) (t : State → State) :
    s.resolveStop i t = t s := by
  rw [State.resolveStop, h]

theorem State.resolveStop_of_some {s : State} {i : SlotId} {k : StopKind} (h : (s.slot i).stopRequest = some k)
    (t : State → State) : s.resolveStop i t = s.enterAborting i k.ending := by
  rw [State.resolveStop, h]

theorem Slot.Takes.kind_ne {x : Slot} {kind : FrameKind} {index : Nat} (h : x.Takes kind index) :
    kind ≠ .sync ∧ kind ≠ .poll := by
  rcases h.cases with ⟨-, hk, -⟩ | ⟨-, ho⟩ | ⟨-, hk, -⟩
  · simp [hk]
  · rcases Slot.exchangeFrame_eq_some ho with ⟨-, hk, -⟩ | ⟨-, -, hk, -⟩ | ⟨-, -, hk, -⟩ <;> simp [hk]
  · simp [hk]

/-- A reply that passes every check of R57, to a frame whose slot takes it. -/
theorem exec_reply_taken {s : State} {f : Frame} {i : SlotId} {r : Reply} (h : s.receives f i)
    (ht : (s.slot i).Takes f.kind f.index) (hv : s.replyValid f r = true)
    (hg : ∀ payload, r = .give payload → payload.length ≤ 64) :
    exec r.command s = .next (((s.replyBase f i r).slotValid i f r).announceSince s) := by
  have hs := State.serves_of_receives h
  obtain ⟨-, hf, hp, -⟩ := h
  rw [exec_reply hf hp hg, if_pos hv, State.report_valid hs ht ht.kind_ne]

/-- A reply that leaves the queue as it is: no announcement follows. -/
theorem exec_reply_moves {s u : State} {f : Frame} {i : SlotId} {r : Reply} (h : s.receives f i)
    (ht : (s.slot i).Takes f.kind f.index) (hv : s.replyValid f r = true)
    (hg : ∀ payload, r = .give payload → payload.length ≤ 64)
    (hu : (s.replyBase f i r).slotValid i f r = u) (hq : u.queue = s.queue) : exec r.command s = .next u := by
  rw [exec_reply_taken h ht hv hg, hu, State.announceSince_of_queue hq]

/-- A reply that completes the slot: its one record is announced. -/
theorem exec_reply_closes {s u : State} {f : Frame} {i : SlotId} {r : Reply} {res : Result} (h : s.receives f i)
    (ht : (s.slot i).Takes f.kind f.index) (hv : s.replyValid f r = true)
    (hg : ∀ payload, r = .give payload → payload.length ≤ 64)
    (hu : (s.replyBase f i r).slotValid i f r = u.complete i res) (hc : (u.slot i).state = (s.slot i).state)
    (hq : u.queue = s.queue) : exec r.command s = .next ((u.complete i res).coalesce) := by
  have hcan : (u.slot i).state.canComplete = true := by
    rw [hc]
    exact SlotState.canComplete_of_isActive ht.isActive
  rw [exec_reply_taken h ht hv hg, hu, State.announceSince_complete res hcan hq]

theorem State.replyBase_of_ne (s : State) (f : Frame) (i : SlotId) (r : Reply) (h : r ≠ .wait) :
    s.replyBase f i r = s.replyTaken f i := if_neg h

theorem State.replyValid_iff {s : State} {f : Frame} {r : Reply} :
    s.replyValid f r = true ↔ f.kind.allows r = true ∧ s.replyFits f r = true := by
  rw [State.replyValid, Bool.and_eq_true]

theorem Slot.allows_park_of_offers {x : Slot} {f : Frame} (h : x.offers f) (hk : f.kind ≠ .openReq) :
    f.kind.allows .park = true := by
  rcases h with ⟨-, hkind, -⟩ | ⟨-, -, -, hkind, -⟩ | ⟨-, -, -, hkind, -⟩ | ⟨-, -, hkind, -⟩
  · exact absurd hkind hk
  all_goals rw [hkind]; rfl

theorem Slot.allows_wait_of_offers {x : Slot} {f : Frame} (h : x.offers f) : f.kind.allows .wait = true := by
  rcases h with ⟨-, hkind, -⟩ | ⟨-, -, -, hkind, -⟩ | ⟨-, -, -, hkind, -⟩ | ⟨-, -, hkind, -⟩ <;> rw [hkind] <;> rfl

theorem State.slot_replyTaken (s : State) (f : Frame) (i : SlotId) :
    (s.replyTaken f i).slot i = { s.slot i with inFlight := false } := by simp [State.replyTaken, State.slot]

theorem State.station_replyTaken (s : State) (f : Frame) (i : SlotId) :
    (s.replyTaken f i).station f.station = { s.station f.station with failures := 0 } := by
  simp [State.replyTaken, State.station]

/-! ## One slot and one station written -/

theorem State.setSlot_setSlot (s : State) (i : SlotId) (x y : Slot) : (s.setSlot i x).setSlot i y = s.setSlot i y := by
  simp [State.setSlot]

theorem State.setStation_setStation (s : State) (st : StationId) (r q : Station) :
    (s.setStation st r).setStation st q = s.setStation st q := by simp [State.setStation]

theorem State.setSlot_setStation (s : State) (st : StationId) (r : Station) (i : SlotId) (x : Slot) :
    (s.setStation st r).setSlot i x = (s.setSlot i x).setStation st r := rfl

theorem State.startPollTimer_eq (s : State) (st : StationId) : s.startPollTimer st = s.modStation st fun r =>
    { r with pollTimer := if r.pollTimer = .stopped then .running s.cfg.pollInterval else r.pollTimer } := by
  unfold State.startPollTimer
  by_cases h : (s.station st).pollTimer = .stopped
  · simp only [if_pos h, State.modStation]
  · rw [if_neg h, State.modStation_id]
    rw [if_neg h]

/-! ## ACCEPT and PARK -/

/-- Settles O37: with no stop held the slot's own rule is taken on the state that every valid reply leaves. -/
theorem acceptAndPark : Obligations.AcceptAndPark := by
  intro s f i h ho hstop r t
  constructor
  · intro hk
    have hv : s.replyValid f .accept = true := State.replyValid_iff.mpr ⟨by rw [hk]; rfl, rfl⟩
    have hafter : t.slotValid i f .accept = (t.setSlot i { s.slot i with
        inFlight := false
        state := .opened
        phase := if (s.slot i).desc.kind = .control then .finishing else .data
        nextIndex := 0
        bytesMoved := 0 }).setStation f.station { r with failures := 0, engaged := some i } := by
      simp only [t, r, State.slotValid, State.slotAccept, State.resolveStop, State.modSlot, State.modStation,
        State.setSlot_setSlot, State.setSlot_setStation, State.slot_setSlot_self, State.slot_setStation,
        State.station_setSlot, State.slot_replyTaken, State.station_replyTaken, hstop]
    exact exec_reply_moves h (Slot.takes_of_offers ho) hv nofun hafter rfl
  · intro hk hroom
    have hv : s.replyValid f .park = true :=
      State.replyValid_iff.mpr ⟨Slot.allows_park_of_offers ho hk, decide_eq_true hroom⟩
    have hafter : t.slotValid i f .park = (t.setSlot i { s.slot i with
        state := .parked, ready := false, inFlight := false }).setStation f.station { r with
        failures := 0
        engaged := none
        parked := r.parked ++ [i]
        pollTimer := if r.pollTimer = .stopped then .running s.cfg.pollInterval else r.pollTimer } := by
      simp only [t, r, State.slotValid, State.slotPark, State.resolveStop, State.startPollTimer_eq, State.modSlot,
        State.modStation, State.setSlot_setStation, State.slot_setStation, State.setStation_setStation,
        State.station_setStation_self, State.slot_replyTaken, State.station_replyTaken, hstop]
      rfl
    exact exec_reply_moves h (Slot.takes_of_offers ho) hv nofun hafter rfl

/-! ## Replies that close the exchange -/

/-- Settles O38: each of the three replies is one completion on the state that every valid reply leaves. -/
theorem closingRepliesComplete : Obligations.ClosingRepliesComplete := by
  refine ⟨?_, ?_⟩
  · intro s f i v h ho late
    have ht := Slot.takes_of_offers ho
    have hslot := s.slot_replyTaken f i
    constructor
    · intro hk hne
      have hv : s.replyValid f (.refuse v) = true := State.replyValid_iff.mpr ⟨by rw [hk]; rfl, decide_eq_true hne⟩
      refine exec_reply_closes h ht hv nofun ?_ (by rw [State.slot_modSlot_self, hslot]) rfl
      rw [State.replyBase_of_ne s f i (.refuse v) nofun, State.slotValid, State.slotRefuse, hslot]
    · intro hk
      have hv : s.replyValid f (.result v) = true := State.replyValid_iff.mpr ⟨by rw [hk]; rfl, rfl⟩
      refine exec_reply_closes h ht hv nofun ?_ (by rw [hslot]) rfl
      rw [State.replyBase_of_ne s f i (.result v) nofun, State.slotValid, State.slotResult, hslot]
  · intro s f i o h hk hi hst hpend
    have hslot := s.slot_replyTaken f i
    have hv : s.replyValid f .done = true := State.replyValid_iff.mpr ⟨by rw [hk]; rfl, rfl⟩
    refine exec_reply_closes h (Slot.takes_abort hk hi hst) hv nofun ?_ (by rw [hslot]) rfl
    rw [State.replyBase_of_ne s f i .done nofun]
    simp only [State.slotValid, State.completePending, hslot, hpend]

/-! ## Replies that move data -/

theorem Slot.phase_of_offers {x : Slot} {f : Frame} (h : x.offers f) (hk : f.kind = .send ∨ f.kind = .pull) :
    x.phase = .data := by
  rcases h with ⟨-, hkind, -⟩ | ⟨-, hp, -⟩ | ⟨-, hp, -⟩ | ⟨-, -, hkind, -⟩
  · simp [hkind] at hk
  · exact hp
  · exact hp
  · simp [hkind] at hk

/-- The pool's memory changed alone. -/
def State.withMem (s : State) (m : Memory) : State := { s with mem := m }

/-- A STORE slot in phase DATA after TAKEN (R108). -/
theorem Slot.afterTaken_of_data {x : Slot} (h : x.phase = .data) :
    let n := min 64 (x.len - 64 * x.nextIndex)
    x.afterTaken = { x with
      bytesMoved := x.bytesMoved + n
      nextIndex := x.nextIndex + 1
      phase := if x.bytesMoved + n = x.len then .finishing else .data } := by
  simp only [Slot.afterTaken, h]
  rfl

/-- A FETCH slot in phase DATA after GIVE of `p` bytes: a GIVE that fills the length is not short (R111, R112). -/
theorem Slot.afterGive_of_data {x : Slot} (h : x.phase = .data) (p : Nat) :
    let moved := x.bytesMoved + p
    x.afterGive p = { x with
      bytesMoved := moved
      nextIndex := x.nextIndex + 1
      phase := if p < 64 ∨ moved = x.len then .finishing else .data
      short := x.short || decide (p < 64 ∧ moved < x.len) } := by
  have hshort : ((decide (p < 64) || decide (x.bytesMoved + p = x.len)) && decide (x.bytesMoved + p < x.len)) =
      decide (p < 64 ∧ x.bytesMoved + p < x.len) := by
    rw [Bool.eq_iff_iff]
    simp only [Bool.and_eq_true, Bool.or_eq_true, decide_eq_true_eq]
    omega
  intro moved
  calc x.afterGive p = { x with
        bytesMoved := moved
        nextIndex := x.nextIndex + 1
        phase := if (decide (p < 64) || decide (moved = x.len)) = true then .finishing else x.phase
        short := x.short || ((decide (p < 64) || decide (moved = x.len)) && decide (moved < x.len)) } := rfl
    _ = _ := by
      rw [hshort, h]
      simp only [Bool.or_eq_true, decide_eq_true_eq, moved]

/-- A TAKEN's movement, before a held stop is resolved (R108). -/
theorem State.slotTaken_eq (s : State) (i : SlotId) : s.slotTaken i =
    ((s.setSlot i (s.slot i).afterTaken).countPayload (min 64 ((s.slot i).len - 64 * (s.slot i).nextIndex))).resolveStop
      i id := rfl

/-- A GIVE's movement, before a held stop is resolved (R111). -/
theorem State.slotGive_eq (s : State) (i : SlotId) (payload : List Byte) : s.slotGive i payload =
    (((s.withMem (chainPutAll s.mem (s.slot i).chain (64 * (s.slot i).nextIndex) payload)).setSlot i
      ((s.slot i).afterGive payload.length)).countPayload payload.length).resolveStop i id := rfl

/-- Settles O39: the segment is counted on the state that every valid reply leaves. -/
theorem dataRepliesCountTheBytes : Obligations.DataRepliesCountTheBytes := by
  intro s f i h ho hstop x t
  have ht := Slot.takes_of_offers ho
  have hslot : t.slot i = { x with inFlight := false } := s.slot_replyTaken f i
  constructor
  · intro hk n
    have hphase : (t.slot i).phase = .data := by rw [hslot]; exact Slot.phase_of_offers ho (.inl hk)
    have hv : s.replyValid f .taken = true := State.replyValid_iff.mpr ⟨by rw [hk]; rfl, rfl⟩
    refine exec_reply_moves h ht hv nofun ?_ rfl
    rw [State.replyBase_of_ne s f i .taken nofun, State.slotValid, State.slotTaken_eq, State.resolveStop_of_none,
      Slot.afterTaken_of_data hphase, hslot]
    · rfl
    · rw [State.slot_countPayload, State.slot_setSlot_self, Slot.afterTaken_of_data hphase, hslot]
      exact hstop
  · intro payload hk hlen hfit p moved
    have hphase : (t.slot i).phase = .data := by rw [hslot]; exact Slot.phase_of_offers ho (.inr hk)
    have hv : s.replyValid f (.give payload) = true := by
      obtain ⟨-, -, -, hfs, -⟩ := h
      refine State.replyValid_iff.mpr ⟨by rw [hk]; rfl, ?_⟩
      rw [State.replyFits, hfs]
      exact decide_eq_true hfit
    refine exec_reply_moves h ht hv (by rintro _ ⟨rfl⟩; exact hlen) ?_ rfl
    rw [State.replyBase_of_ne s f i (.give payload) nofun, State.slotValid, State.slotGive_eq, State.resolveStop_of_none,
      Slot.afterGive_of_data hphase, hslot]
    · rfl
    · rw [State.slot_countPayload, State.slot_setSlot_self, Slot.afterGive_of_data hphase, hslot]
      exact hstop

/-! ## WAIT -/

/-- A slot's record after WAIT: the busy counts, and the possibly opened flag of an OPEN's slot (R106, R140). -/
theorem Slot.afterWait_eq (kind : FrameKind) (x : Slot) : x.afterWait kind = { x with
    busySeen := min 255 (x.busySeen + 1)
    busyLeft := if x.desc.busyAllowance = 0 then x.busyLeft else x.busyLeft - 1
    possiblyOpened := if kind = .openReq ∧ x.retriesUsed = 0 then false else x.possiblyOpened } := by
  unfold Slot.afterWait Slot.waitToOpen Slot.countBusy
  by_cases hk : kind = .openReq
  · by_cases hr : x.retriesUsed = 0 <;> simp [hk, hr, Config.busySeenCap]
  · simp [hk, Config.busySeenCap]

/-- What a WAIT changes before its end is decided (R61, R75, R106, R140). -/
def State.waitTaken (s : State) (f : Frame) (i : SlotId) : State :=
  let x := s.slot i
  let t := s.replyTaken f i
  { t with
    slots := t.slots.set i.val { x with
      inFlight := false
      busySeen := min 255 (x.busySeen + 1)
      busyLeft := if x.desc.busyAllowance = 0 then x.busyLeft else x.busyLeft - 1
      possiblyOpened := if f.kind = .openReq ∧ x.retriesUsed = 0 then false else x.possiblyOpened }
    stations := t.stations.set f.station.val { s.station f.station with
      failures := 0, backoff := some s.cfg.backoffInterval }
    stats := { t.stats with waitReplies := t.stats.waitReplies + 1 } }

theorem State.slot_waitTaken (s : State) (f : Frame) (i : SlotId) : (s.waitTaken f i).slot i = { s.slot i with
    inFlight := false
    busySeen := min 255 ((s.slot i).busySeen + 1)
    busyLeft := if (s.slot i).desc.busyAllowance = 0 then (s.slot i).busyLeft else (s.slot i).busyLeft - 1
    possiblyOpened :=
      if f.kind = .openReq ∧ (s.slot i).retriesUsed = 0 then false else (s.slot i).possiblyOpened } := by
  simp [State.waitTaken, State.slot]

theorem State.station_waitTaken (s : State) (f : Frame) (i : SlotId) : (s.waitTaken f i).station f.station =
    { s.station f.station with failures := 0, backoff := some s.cfg.backoffInterval } := by
  simp [State.waitTaken, State.station]

theorem State.waitTaken_eq (s : State) (f : Frame) (i : SlotId) :
    (s.replyBase f i .wait).modSlot i (Slot.afterWait f.kind) = s.waitTaken f i := by
  have hslot : (s.replyBase f i .wait).slot i = { s.slot i with inFlight := false } := s.slot_replyTaken f i
  rw [State.modSlot, hslot, Slot.afterWait_eq]
  rfl

/-- A valid WAIT: its own changes, then its end by the held stop or by the busy allowance (R141, R147, R148). -/
theorem exec_wait {s : State} {f : Frame} {i : SlotId} (h : s.receives f i) (ho : (s.slot i).offers f) :
    exec .wait s = .next (((s.waitTaken f i).endWait i
      (decide (f.kind = .openReq ∧ ((s.slot i).retriesUsed = 0 ∨ (s.slot i).possiblyOpened = false)))
      (decide ((s.slot i).desc.busyAllowance ≠ 0 ∧ (s.slot i).busyLeft = 1))).announceSince s) := by
  have hv : s.replyValid f .wait = true := State.replyValid_iff.mpr ⟨Slot.allows_wait_of_offers ho, rfl⟩
  have hslot : (s.replyBase f i .wait).slot i = { s.slot i with inFlight := false } := s.slot_replyTaken f i
  have hcontext : (decide (f.kind = .openReq) && !((s.waitTaken f i).slot i).possiblyOpened) =
      decide (f.kind = .openReq ∧ ((s.slot i).retriesUsed = 0 ∨ (s.slot i).possiblyOpened = false)) := by
    rw [State.slot_waitTaken]
    by_cases hk : f.kind = .openReq <;> by_cases hr : (s.slot i).retriesUsed = 0 <;>
      cases (s.slot i).possiblyOpened <;> simp [hk, hr]
  have hout : ((s.replyBase f i .wait).slot i).busyRunsOut =
      decide ((s.slot i).desc.busyAllowance ≠ 0 ∧ (s.slot i).busyLeft = 1) := by
    rw [hslot, Slot.busyRunsOut, Bool.decide_and]
  rw [show Instr.wait = Reply.wait.command from rfl, exec_reply_taken h (Slot.takes_of_offers ho) hv nofun,
    State.slotValid, State.slotWait_eq, State.waitTaken_eq, hcontext, hout]

theorem State.endWait_of_lasting {s : State} {i : SlotId} (h : (s.slot i).stopRequest = none) (noContext : Bool) :
    s.endWait i noContext false = s := by
  unfold State.endWait
  rw [h]
  rfl

theorem State.endWait_of_ranOut {s : State} {i : SlotId} (h : (s.slot i).stopRequest = none) (noContext : Bool) :
    s.endWait i noContext true =
      if noContext then s.complete i { outcome := .busyLimit } else s.enterAborting i .busyLimit := by
  unfold State.endWait
  rw [h]
  rfl

theorem State.endWait_of_stop {s : State} {i : SlotId} {k : StopKind} (h : (s.slot i).stopRequest = some k)
    (noContext ranOut : Bool) : s.endWait i noContext ranOut =
      if noContext then s.complete i { outcome := k.ending } else s.enterAborting i k.ending := by
  unfold State.endWait
  rw [h]

theorem State.unparked_waitTaken {s : State} {f : Frame} {i : SlotId} (hst : (s.slot i).desc.stationId = some f.station)
    (h : i ∉ (s.station f.station).parked) (st : StationId)
    (hd : ((s.waitTaken f i).slot i).desc.stationId = some st) : i ∉ ((s.waitTaken f i).station st).parked := by
  rw [State.slot_waitTaken] at hd
  obtain rfl : f.station = st := Option.some.inj (hst.symm.trans hd)
  rw [State.station_waitTaken]
  exact h

/-- Settles O41: the WAIT's end is decided on the state after its own changes. -/
theorem waitAndTheBusyLimit : Obligations.WaitAndTheBusyLimit := by
  intro s f i h ho hstop x t runsOut opened u
  have hu : s.waitTaken f i = u := rfl
  have hslot : u.slot i = _ := s.slot_waitTaken f i
  have hnone : (u.slot i).stopRequest = none := by
    rw [hslot]
    exact hstop
  have hopened : opened = false ↔ f.kind ≠ .openReq ∧ x.possiblyOpened = false ∨
      f.kind = .openReq ∧ (x.retriesUsed = 0 ∨ x.possiblyOpened = false) := by
    simp only [opened]
    by_cases hk : f.kind = .openReq <;> by_cases hr : x.retriesUsed = 0 <;> simp [hk, hr]
  rw [exec_wait h ho, hu]
  refine ⟨fun hout => ?_, fun hout hk hop => ?_, fun hout hcontext hunparked => ?_⟩
  · rw [decide_eq_false hout, State.endWait_of_lasting hnone]
    exact congrArg _ (State.announceSince_of_queue rfl)
  · have hno : f.kind = .openReq ∧ (x.retriesUsed = 0 ∨ x.possiblyOpened = false) := by simpa [hk] using hopened.mp hop
    have hcan : (u.slot i).state.canComplete = true := by
      rw [hslot]
      exact SlotState.canComplete_of_isActive (Slot.takes_of_offers ho).isActive
    rw [decide_eq_true hout, decide_eq_true hno, State.endWait_of_ranOut hnone, if_pos rfl]
    exact congrArg _ (State.announceSince_complete _ hcan rfl)
  · have hno : ¬ (f.kind = .openReq ∧ (x.retriesUsed = 0 ∨ x.possiblyOpened = false)) := by
      intro hno
      rcases hcontext with hk | hop
      · exact hk hno.1
      · exact absurd (hopened.mpr (.inr hno)) (by simp [hop])
    obtain ⟨-, -, -, -, -, hst, -⟩ := h
    have henter := State.enterAborting_of_unparked .busyLimit (State.unparked_waitTaken hst hunparked)
    rw [decide_eq_true hout, decide_eq_false hno, State.endWait_of_ranOut hnone, if_neg nofun, ← hu, henter]
    exact congrArg _ (State.announceSince_of_queue rfl)

/-! ## Failures below the fault threshold -/

theorem State.report_failed {s : State} {f : Frame} {c : Instr} (hl : s.link = .running) (hc : s.failsBy f c)
    (hkeep : s.keepsLink c) (hk : f.kind ≠ .sync) : s.report f (s.gapAfter f c) (failureOf c) =
      (s.told f (s.gapAfter f c) (failureOf c)).announceSince s :=
  State.report_running hl hk fun h => hkeep ((failureOf_of_failsBy hc).2.1.mp h)

/-- A failed reply to a slot's frame below the fault threshold: the failure is counted, then the slot's own rule (R135). -/
theorem exec_failed_below {s : State} {f : Frame} {i : SlotId} {c : Instr} (hs : s.serves f i) (hc : s.failsBy f c)
    (hkeep : s.keepsLink c) (ht : (s.slot i).Takes f.kind f.index)
    (hbelow : (s.station f.station).failures + 1 < s.cfg.faultThreshold) :
    exec c s = .next ((((s.failureTaken f i (decide (c = .violationReply)) (s.gapAfter f c)
      (s.silentAfter c)).slotFailure i f (decide (c = .violationReply))).announceSince s).afterReport c) := by
  have hl : s.link = .running := hs.1
  rw [exec_of_failsBy hc (by rw [hl]; rfl), State.report_failed hl hc hkeep ht.kind_ne.1,
    State.told_failed hs hc ht ht.kind_ne, if_neg (not_le.mpr hbelow)]

theorem State.slot_failureTaken (s : State) (f : Frame) (i : SlotId) (violation gap : Bool) (n : Nat) :
    (s.failureTaken f i violation gap n).slot i = { s.slot i with inFlight := false } := by
  simp [State.failureTaken, State.slot]

theorem State.station_failureTaken (s : State) (f : Frame) (i : SlotId) (violation gap : Bool) (n : Nat) :
    (s.failureTaken f i violation gap n).station f.station =
      { s.station f.station with failures := (s.station f.station).failures + 1 } := by
  simp [State.failureTaken, State.station]

theorem State.slotFailure_of_offers {x : Slot} {f : Frame} (h : x.offers f) (s : State) (i : SlotId) (violation : Bool) :
    s.slotFailure i f violation = s.slotFailed i violation := by
  obtain ⟨hsync, hpoll, habort⟩ := Slot.offers_kind h
  unfold State.slotFailure
  split <;> simp_all

theorem State.unparked_failureTaken {s : State} {f : Frame} {i : SlotId} (hst : (s.slot i).desc.stationId = some f.station)
    (h : i ∉ (s.station f.station).parked) (violation gap : Bool) (n : Nat) (st : StationId)
    (hd : ((s.failureTaken f i violation gap n).slot i).desc.stationId = some st) :
    i ∉ ((s.failureTaken f i violation gap n).station st).parked := by
  rw [State.slot_failureTaken] at hd
  obtain rfl : f.station = st := Option.some.inj (hst.symm.trans hd)
  rw [State.station_failureTaken]
  exact h

/-- Settles O45: with no stop held the failure's own rule is taken on the state that every failed reply leaves. -/
theorem failedRepliesOfASlot : Obligations.FailedRepliesOfASlot := by
  intro s f i c hs hc hkeep ho hstop hbelow u
  have hslot : u.slot i = { s.slot i with inFlight := false } := s.slot_failureTaken f i _ _ _
  have hnone : (u.slot i).stopRequest = none := by
    rw [hslot]
    exact hstop
  have ht := Slot.takes_of_offers ho
  rw [exec_failed_below hs hc hkeep ht hbelow, State.slotFailure_of_offers ho, State.slotFailed,
    State.resolveStop_of_none hnone]
  refine ⟨fun hne hleft => ?_, fun hne hleft => ?_, fun he hunparked => ?_⟩
  · rw [if_neg (by simpa using hne), if_pos (by rw [hslot]; exact hleft), State.announceSince_of_queue (by rfl)]
    rfl
  · have hcan : (u.slot i).state.canComplete = true := by
      rw [hslot]
      exact SlotState.canComplete_of_isActive ht.isActive
    rw [if_neg (by simpa using hne), if_neg (by rw [hslot, hleft]; exact lt_irrefl 0)]
    exact congrArg (fun v : State => Host.Outcome.next (v.afterReport c)) (State.announceSince_complete _ hcan rfl)
  · obtain ⟨-, -, -, -, hst, -⟩ := hs
    rw [if_pos (by simpa using he), State.enterAborting_of_unparked _ (State.unparked_failureTaken hst hunparked _ _ _),
      State.announceSince_of_queue (by rfl)]
    subst he
    rfl

/-! ## Replies that fail a check of R57 -/

theorem exec_violationReply {s : State} {f : Frame} (hf : s.frame = some f) (hp : f.phase = .receiving) :
    exec .violationReply s = .next (s.report f false .violation) := by
  simp only [exec, execViolationReply, State.takeReceived, hf, hp]

/-- A reply that fails a check of R57 is taken as a violation is. -/
theorem exec_reply_violates {s : State} {f : Frame} {r : Reply} (hf : s.frame = some f) (hp : f.phase = .receiving)
    (hv : ¬ (f.kind.allows r = true ∧ s.replyFits f r = true)) (hg : ∀ payload, r = .give payload → payload.length ≤ 64) :
    exec r.command s = exec .violationReply s := by
  rw [exec_reply hf hp hg, if_neg (mt State.replyValid_iff.mp hv), exec_violationReply hf hp]

/-- The frames that permit a reply (R55). -/
theorem FrameKind.allows_iff (k : FrameKind) :
    (∀ d, k.allows (.present d) = true ↔ k = .sync) ∧ (k.allows .accept = true ↔ k = .openReq) ∧
    (∀ v, k.allows (.refuse v) = true ↔ k = .openReq) ∧ (k.allows .taken = true ↔ k = .send) ∧
    (∀ p, k.allows (.give p) = true ↔ k = .pull) ∧ (∀ v, k.allows (.result v) = true ↔ k = .finish) ∧
    (k.allows .wait = true ↔ k ∉ [FrameKind.sync, .poll, .abort]) ∧
    (k.allows .park = true ↔ k ∉ [FrameKind.sync, .openReq, .poll, .abort]) ∧ (k.allows .nothing = true ↔ k = .poll) ∧
    (∀ tag, k.allows (.ready tag) = true ↔ k = .poll) ∧ (k.allows .done = true ↔ k = .abort) := by
  cases k <;> simp [FrameKind.allows]

/-- Settles O46: each condition is a check of R55 or R57 that the reply fails. -/
theorem invalidRepliesAreViolations : Obligations.InvalidRepliesAreViolations := by
  intro s f hf hp
  obtain ⟨hpresent, haccept, hrefuse, htaken, hgive, hresult, hwait, hpark, hnothing, hready, hdone⟩ :=
    FrameKind.allows_iff f.kind
  refine ⟨fun d h => ?_, fun h => ?_, fun r h => ?_, fun h => ?_, fun payload hlen h => ?_, fun payload hlen => ?_,
    fun h v => ?_, fun h => ?_, fun h => ?_, fun h => ?_, fun tag h => ?_, fun h => ?_⟩
  · refine exec_reply_violates hf hp (r := .present d) (fun hv => ?_) nofun
    rw [hpresent, State.replyFits, decide_eq_true_eq] at hv
    rcases h with h | h
    · exact h hv.1
    · exact absurd hv.2 (not_le.mpr h)
  · exact exec_reply_violates hf hp (r := .accept) (fun hv => h (haccept.mp hv.1)) nofun
  · refine exec_reply_violates hf hp (r := .refuse r) (fun hv => ?_) nofun
    rw [hrefuse, State.replyFits, decide_eq_true_eq] at hv
    rcases h with h | h
    · exact h hv.1
    · exact hv.2 h
  · exact exec_reply_violates hf hp (r := .taken) (fun hv => h (htaken.mp hv.1)) nofun
  · refine exec_reply_violates hf hp (r := .give payload) (fun hv => ?_) (by rintro _ ⟨rfl⟩; exact hlen)
    obtain ⟨hallows, hfits⟩ := hv
    rcases h with h | h
    · exact h ((hgive payload).mp hallows)
    · unfold State.replyFits at hfits
      cases hfs : f.slot with
      | none => simp [hfs] at hfits
      | some i =>
        simp only [hfs, decide_eq_true_eq] at hfits
        exact absurd hfits (not_le.mpr (h i (by simp [hfs])))
  · exact if_neg (not_le.mpr hlen)
  · exact exec_reply_violates hf hp (r := .result v) (fun hv => h ((hresult v).mp hv.1)) nofun
  · exact exec_reply_violates hf hp (r := .wait) (fun hv => hwait.mp hv.1 h) nofun
  · refine exec_reply_violates hf hp (r := .park) (fun hv => ?_) nofun
    rw [hpark, State.replyFits, decide_eq_true_eq] at hv
    rcases h with h | h
    · exact hv.1 h
    · exact absurd hv.2 (not_lt.mpr h)
  · exact exec_reply_violates hf hp (r := .nothing) (fun hv => h (hnothing.mp hv.1)) nofun
  · refine exec_reply_violates hf hp (r := .ready tag) (fun hv => ?_) nofun
    rw [hready, State.replyFits, List.contains_iff_mem] at hv
    rcases h with h | h
    · exact h hv.1
    · exact h hv.2
  · exact exec_reply_violates hf hp (r := .done) (fun hv => h (hdone.mp hv.1)) nofun

/-! ## A held stop -/

theorem State.countPayload_setSlot (s : State) (n : Nat) (i : SlotId) (x : Slot) :
    (s.countPayload n).setSlot i x = (s.setSlot i x).countPayload n := rfl

theorem State.setStation_station_self (s : State) (st : StationId) : s.setStation st (s.station st) = s := by
  simp [State.setStation, State.station]

/-- A slot that is not parked enters ABORTING: its own record alone is written. -/
theorem State.enterAborting_written {t : State} {i : SlotId} {st : StationId} {y : Slot} {q : Station} (o : Ending)
    (hslot : t.slot i = y) (hstation : t.station st = q) (hd : y.desc.stationId = some st) (hp : i ∉ q.parked) :
    t.enterAborting i o = (t.setSlot i (y.toAborting o)).setStation st q := by
  subst hslot hstation
  rw [State.enterAborting_of_unparked o fun v hv => Option.some.inj (hd.symm.trans hv) ▸ hp]
  exact (State.setStation_station_self (t.modSlot i fun x => x.toAborting o) st).symm

theorem State.enterAborting_setBoth {t : State} {i : SlotId} {st : StationId} {y : Slot} {q : Station} (o : Ending)
    (hd : y.desc.stationId = some st) (hp : i ∉ q.parked) :
    ((t.setSlot i y).setStation st q).enterAborting i o = (t.setSlot i (y.toAborting o)).setStation st q := by
  rw [State.enterAborting_written o (by rw [State.slot_setStation, State.slot_setSlot_self])
    (State.station_setStation_self (t.setSlot i y) st q) hd hp, State.setSlot_setStation, State.setSlot_setSlot,
    State.setStation_setStation]

/-- A held stop is resolved on the state that the reply's movement leaves (R102, R148). -/
theorem State.resolveStop_written {t : State} {i : SlotId} {st : StationId} {y : Slot} {q : Station} {k : StopKind}
    (hslot : t.slot i = y) (hstation : t.station st = q) (hk : y.stopRequest = some k) (hd : y.desc.stationId = some st)
    (hp : i ∉ q.parked) (g : State → State) :
    t.resolveStop i g = (t.setSlot i (y.toAborting k.ending)).setStation st q := by
  rw [State.resolveStop_of_some (by rw [hslot]; exact hk), State.enterAborting_written _ hslot hstation hd hp]

theorem State.resolveStop_setSlot {t : State} {i : SlotId} {st : StationId} {y : Slot} {q : Station} {k : StopKind}
    (hstation : t.station st = q) (hk : y.stopRequest = some k) (hd : y.desc.stationId = some st) (hp : i ∉ q.parked)
    (g : State → State) :
    (t.setSlot i y).resolveStop i g = (t.setSlot i (y.toAborting k.ending)).setStation st q := by
  rw [State.resolveStop_written (State.slot_setSlot_self t i y) hstation hk hd hp, State.setSlot_setSlot]

theorem State.resolveStop_setBoth {t : State} {i : SlotId} {st : StationId} {y : Slot} {q : Station} {k : StopKind}
    (hk : y.stopRequest = some k) (hd : y.desc.stationId = some st) (hp : i ∉ q.parked) (g : State → State) :
    ((t.setSlot i y).setStation st q).resolveStop i g = (t.setSlot i (y.toAborting k.ending)).setStation st q := by
  rw [State.resolveStop_of_some (by rw [State.slot_setStation, State.slot_setSlot_self]; exact hk),
    State.enterAborting_setBoth _ hd hp]

theorem State.resolveStop_setStation {t : State} {i : SlotId} {st : StationId} {y : Slot} {q : Station} {k : StopKind}
    (hslot : t.slot i = y) (hk : y.stopRequest = some k) (hd : y.desc.stationId = some st) (hp : i ∉ q.parked)
    (g : State → State) :
    (t.setStation st q).resolveStop i g = (t.setSlot i (y.toAborting k.ending)).setStation st q := by
  rw [State.resolveStop_written (by exact hslot) (State.station_setStation_self t st q) hk hd hp,
    State.setSlot_setStation, State.setStation_setStation]

/-- An ACCEPT's movement, before a held stop is resolved (R104). -/
theorem State.slotAccept_eq (s : State) (i : SlotId) (st : StationId) : s.slotAccept i st =
    ((s.setSlot i { s.slot i with
      phase := if (s.slot i).desc.kind = .control then .finishing else .data
      nextIndex := 0
      bytesMoved := 0 }).setStation st { s.station st with engaged := some i }).resolveStop i
        fun t => t.modSlot i fun x => { x with state := .opened } := rfl

/-- Settles O47: the reply's movement, then the entry to ABORTING with the stop's outcome. -/
theorem heldStopIsResolvedAtTheReport : Obligations.HeldStopIsResolvedAtTheReport := by
  intro s f i k hs ho hstop x r outcome stopped noContext busy
  have hout : k.ending = outcome := by cases k <;> rfl
  have ht := Slot.takes_of_offers ho
  have hd : x.desc.stationId = some f.station := hs.2.2.2.2.1
  refine ⟨fun hp => ?_, fun c hunparked hc hkeep hbelow => ?_⟩
  · intro t q waited counted
    have h : s.receives f i := by
      obtain ⟨hl, hf, hfs, hfl, hst, hon⟩ := hs
      exact ⟨hl, hf, hp, hfs, hfl, hst, hon⟩
    have hslot : t.slot i = { x with inFlight := false } := s.slot_replyTaken f i
    have hstation : t.station f.station = q := s.station_replyTaken f i
    refine ⟨fun hunparked => ⟨fun hk => ?_, fun hk => ?_, fun payload hk hlen hfit => ?_, fun hno => ?_, fun hk hroom => ?_⟩,
      fun hno => ?_⟩
    · have hv : s.replyValid f .accept = true := State.replyValid_iff.mpr ⟨by rw [hk]; rfl, rfl⟩
      refine exec_reply_moves h ht hv nofun ?_ rfl
      rw [State.replyBase_of_ne s f i .accept nofun, State.slotValid, State.slotAccept_eq, hslot, hstation,
        State.resolveStop_setBoth, hout]
      · rfl
      · exact hstop
      · exact hd
      · exact hunparked
    · intro n
      have hphase : (t.slot i).phase = .data := by rw [hslot]; exact Slot.phase_of_offers ho (.inl hk)
      have hv : s.replyValid f .taken = true := State.replyValid_iff.mpr ⟨by rw [hk]; rfl, rfl⟩
      refine exec_reply_moves h ht hv nofun ?_ rfl
      rw [State.replyBase_of_ne s f i .taken nofun, State.slotValid, State.slotTaken_eq, Slot.afterTaken_of_data hphase,
        hslot, ← State.countPayload_setSlot, State.resolveStop_setSlot (by exact hstation), hout]
      · rfl
      · exact hstop
      · exact hd
      · exact hunparked
    · intro p moved
      have hphase : (t.slot i).phase = .data := by rw [hslot]; exact Slot.phase_of_offers ho (.inr hk)
      have hv : s.replyValid f (.give payload) = true := by
        obtain ⟨-, -, hfs, -⟩ := hs
        refine State.replyValid_iff.mpr ⟨by rw [hk]; rfl, ?_⟩
        rw [State.replyFits, hfs]
        exact decide_eq_true hfit
      refine exec_reply_moves h ht hv (by rintro _ ⟨rfl⟩; exact hlen) ?_ rfl
      rw [State.replyBase_of_ne s f i (.give payload) nofun, State.slotValid, State.slotGive_eq,
        Slot.afterGive_of_data hphase, hslot, ← State.countPayload_setSlot,
        State.resolveStop_setSlot (by exact hstation), hout]
      · rfl
      · exact hstop
      · exact hd
      · exact hunparked
    · have hkept : (if f.kind = .openReq ∧ x.retriesUsed = 0 then false else x.possiblyOpened) = x.possiblyOpened :=
        if_neg fun hq => hno ⟨hq.1, .inl hq.2⟩
      have hwaited : s.waitTaken f i = (({ t with stats := waited } : State).setSlot i { busy with
          inFlight := false }).setStation f.station { q with backoff := some s.cfg.backoffInterval } := by
        rw [State.waitTaken, hkept]
        rfl
      rw [exec_wait h ho, decide_eq_false hno, State.endWait_of_stop (by rw [State.slot_waitTaken]; exact hstop),
        if_neg nofun, hwaited, State.enterAborting_setBoth, hout, State.announceSince_of_queue (by rfl)]
      · rfl
      · exact hd
      · exact hunparked
    · have hv : s.replyValid f .park = true :=
        State.replyValid_iff.mpr ⟨Slot.allows_park_of_offers ho hk, decide_eq_true hroom⟩
      refine exec_reply_moves h ht hv nofun ?_ rfl
      rw [State.replyBase_of_ne s f i .park nofun, State.slotValid, State.slotPark, State.modStation, hstation,
        State.resolveStop_setStation (by exact hslot), hout]
      · rfl
      · exact hstop
      · exact hd
      · exact hunparked
    · intro u v
      have hgone : (if f.kind = .openReq ∧ x.retriesUsed = 0 then false else x.possiblyOpened) = false := by
        obtain ⟨hk, hr | hp⟩ := hno
        · exact if_pos ⟨hk, hr⟩
        · rw [hp, ite_self]
      have hwaited : s.waitTaken f i = u := by
        rw [State.waitTaken, hgone]
      have hu : u.slot i = { busy with inFlight := false, possiblyOpened := false } := by simp [u, State.slot]
      have hcan : (u.slot i).state.canComplete = true := by
        rw [hu]
        exact SlotState.canComplete_of_isActive ht.isActive
      have hsame : SameTables (u.complete i { outcome := outcome }) v := sameTables_coalesce _
      have hafter : v.slot i = (u.slot i).completed { outcome := outcome } := by
        rw [hsame.slot, State.slot_complete hcan, if_pos rfl]
      refine ⟨?_, ?_, ?_, ?_, ?_, ?_⟩
      · rw [exec_wait h ho, decide_eq_true hno, State.endWait_of_stop (by rw [State.slot_waitTaken]; exact hstop),
          if_pos rfl, hwaited, hout]
        exact congrArg _ (State.announceSince_complete _ hcan rfl)
      · rw [hafter]
        rfl
      · rw [hafter]
        rfl
      · rw [hafter]
        rfl
      · rw [hafter, hu]
        rfl
      · rw [hsame.queue, State.complete_queue hcan, List.map_append]
        rfl
  · have hslot := s.slot_failureTaken f i (decide (c = .violationReply)) (s.gapAfter f c) (s.silentAfter c)
    have hstation := s.station_failureTaken f i (decide (c = .violationReply)) (s.gapAfter f c) (s.silentAfter c)
    rw [exec_failed_below hs hc hkeep ht hbelow, State.slotFailure_of_offers ho, State.slotFailed,
      State.resolveStop_written hslot hstation hstop hd hunparked, hout]
    exact congrArg (fun v : State => Host.Outcome.next (v.afterReport c)) (State.announceSince_of_queue rfl)

end Sys2Proof.Machine

/-! The walks that complete several slots of one station in one event: the fault step, the ends of a probe and of a withdrawal
(R67 to R74), at the level of what they leave. -/

namespace Sys2Proof.Machine

/-! ## What the announcement leaves -/

/-- From `u` to `v` nothing has changed but the COMPLETION cause, the unannounced count and the holdoff timer. -/
abbrev Announced (u v : State) : Prop := v = { u with
  completionCause := v.completionCause, unannounced := v.unannounced, holdoffTimer := v.holdoffTimer }

theorem announced_announceSince (u s : State) : Announced u (u.announceSince s) := by
  unfold State.announceSince
  split
  · exact u.coalesce_frame
  · rfl

theorem Announced.slot {u v : State} (h : Announced u v) (i : SlotId) : v.slot i = u.slot i := by rw [h]; rfl

theorem Announced.station {u v : State} (h : Announced u v) (st : StationId) : v.station st = u.station st := by
  rw [h]; rfl

theorem Announced.sameCore {u v : State} (h : Announced u v) : SameCore u v := by
  rw [h]
  exact ⟨fun _ => ⟨rfl, rfl, rfl, rfl, rfl, rfl, rfl, rfl⟩, rfl, rfl, rfl, rfl⟩

/-! ## A station's walk -/

/-- What the completions of a list of slots of one station leave, with the station's record written first. -/
structure Cascade (s u : State) (st : StationId) (q : Station) (ids : List SlotId) (r : SlotId → Result) : Prop where
  completes : Completes s u ids r
  station_self : u.station st = q
  station_ne : ∀ v, v ≠ st → u.station v = s.station v
  onlyTables : OnlyTables s u

/-- Posted and unfinished slots of a station whose record holds none of them. -/
theorem cascade_of_unheld {s : State} {st : StationId} {g : Station → Station} {ids : List SlotId}
    {r : SlotId → Result} (hs : s.listsMatch) (hd : ids.Nodup)
    (hids : ∀ i ∈ ids, (s.slot i).state.isActive = true ∧ (s.slot i).desc.stationId = some st)
    (hheld : ∀ i ∈ ids, (g (s.station st)).engaged ≠ some i ∧ i ∉ (g (s.station st)).parked) :
    Cascade s ((s.modStation st g).completeEach ids r) st (g (s.station st)) ids r := by
  obtain ⟨hu, hn⟩ := State.nodup_lists hs
  have hcompletes : Completes (s.modStation st g) ((s.modStation st g).completeEach ids r) ids r :=
    completes_completeEach r hd (fun i hi => SlotState.canComplete_of_isActive (hids i hi).1) hu hn
  have hstations : ((s.modStation st g).completeEach ids r).stations = (s.modStation st g).stations := by
    refine State.completeEach_stations fun i hi v hv => ?_
    obtain rfl : st = v := Option.some.inj ((hids i hi).2.symm.trans hv)
    rw [State.station_modStation_self]
    exact hheld i hi
  have hstation : ∀ v, ((s.modStation st g).completeEach ids r).station v = (s.modStation st g).station v := fun v => by
    rw [State.station, hstations]
    rfl
  refine ⟨?_, ?_, fun v hv => ?_, ?_⟩
  · obtain ⟨hmem, hnot, hrecs, hseq, hurgent, hnormal⟩ := hcompletes
    exact ⟨hmem, hnot, hrecs, hseq, hurgent, hnormal⟩
  · rw [hstation, State.station_modStation_self]
  · rw [hstation, State.station_modStation_ne s st v g hv]
  · exact OnlyTables.trans (show OnlyTables s (s.modStation st g) from rfl) (onlyTables_completeEach ids r _)

/-- Posted and unfinished slots of a station whose record holds no slot. -/
theorem cascade_completeEach {s : State} {st : StationId} {g : Station → Station} {ids : List SlotId}
    {r : SlotId → Result} (hs : s.listsMatch) (hd : ids.Nodup)
    (hids : ∀ i ∈ ids, (s.slot i).state.isActive = true ∧ (s.slot i).desc.stationId = some st)
    (he : (g (s.station st)).engaged = none) (hp : (g (s.station st)).parked = []) :
    Cascade s ((s.modStation st g).completeEach ids r) st (g (s.station st)) ids r :=
  cascade_of_unheld hs hd hids fun i _ => by
    rw [he, hp]
    exact ⟨nofun, nofun⟩

/-- The walk over a station's slots in some of the posted and unfinished states, with the station's record written first. -/
theorem cascade_completeAll {s : State} {st : StationId} {g : Station → Station} {p : SlotState → Bool}
    {states : List SlotState} (o : Ending) (hs : s.listsMatch) (hp : ∀ x, p x = decide (x ∈ states))
    (hact : ∀ x ∈ states, x.isActive = true) (he : (g (s.station st)).engaged = none)
    (hpk : (g (s.station st)).parked = []) :
    Cascade s ((s.modStation st g).completeAll (s.slotsAt st p) o) st (g (s.station st)) (s.walkAt st states)
      fun _ => { outcome := o } := by
  rw [State.slotsAt_eq_walkAt hp, State.completeAll_eq]
  have hmem : ∀ i ∈ s.walkAt st states, (s.slot i).state.isActive = true ∧ (s.slot i).desc.stationId = some st := by
    intro i hi
    rw [← State.slotsAt_eq_walkAt hp] at hi
    obtain ⟨-, hst, hstate⟩ := State.mem_slotsAt_iff.mp hi
    exact ⟨hact _ (by simpa [hp] using hstate), hst⟩
  refine cascade_completeEach hs ?_ hmem he hpk
  rw [← State.slotsAt_eq_walkAt hp]
  exact State.nodup_slotsAt hs st p

/-! ## The fault step -/

theorem State.completeEach_congr {ids : List SlotId} {r q : SlotId → Result} (h : ∀ i ∈ ids, r i = q i) (s : State) :
    s.completeEach ids r = s.completeEach ids q := by
  induction ids generalizing s with
  | nil => rfl
  | cons i ids ih =>
    rw [State.completeEach_cons, State.completeEach_cons, h i (by simp), ih fun j hj => h j (by simp [hj])]

/-- The walk over a station's posted and unfinished slots passes over the one that has completed. -/
theorem State.slotsAt_complete {s : State} {i : SlotId} {st : StationId} (hs : s.listsMatch)
    (hc : (s.slot i).state.canComplete = true) (r : Result) : (s.complete i r).slotsAt st SlotState.isActive =
      (s.slotsAt st SlotState.isActive).filter fun j => decide (j ≠ i) := by
  obtain ⟨hu, hn⟩ := State.nodup_lists hs
  have hwalk : (s.complete i r).walkOrder = s.walkOrder.filter fun j => decide (j ≠ i) := by
    rw [State.walkOrder, State.walkOrder, State.complete_eq_update hc, hu.erase_eq_filter, hn.erase_eq_filter,
      List.filter_append]
    congr 1 <;> exact List.filter_congr fun j _ => by by_cases he : j = i <;> simp [he]
  rw [State.slotsAt, hwalk, State.slotsAt, List.filter_filter, List.filter_filter]
  refine List.filter_congr fun j _ => ?_
  by_cases he : j = i
  · simp [he]
  · rw [State.slot_complete hc, if_neg he, Bool.and_comm]

/-- The slots that a fault step with a causing slot completes, in their order. -/
def State.faultOrder (s : State) (st : StationId) (i : SlotId) : List SlotId :=
  i :: (s.walkAt st [.queued, .opened, .parked, .aborting]).filter fun j => decide (j ≠ i)

/-- The result of each slot of a fault step: the causing slot's own, and STATION_FAULT for the others. -/
def faultResult (i : SlotId) (r : Result) (j : SlotId) : Result := if j = i then r else { outcome := .stationFault }

theorem SlotState.isActive_eq (x : SlotState) :
    x.isActive = decide (x ∈ [SlotState.queued, .opened, .parked, .aborting]) := by cases x <;> rfl

theorem State.mem_walkAt_iff {s : State} {st : StationId} {states : List SlotState} {i : SlotId} :
    i ∈ s.walkAt st states ↔ i ∈ s.walkOrder ∧ (s.slot i).desc.stationId = some st ∧ (s.slot i).state ∈ states := by
  simp [State.walkAt]

/-- The fault step with a causing slot (R73, R74). -/
theorem cascade_faultStep {s : State} {i : SlotId} {st : StationId} (r : Result) (hs : s.listsMatch)
    (hact : (s.slot i).state.isActive = true) (hd : (s.slot i).desc.stationId = some st) :
    Cascade s (s.faultStep st fun t => t.complete i r) st (s.station st).fault (s.faultOrder st i) (faultResult i r) := by
  have heq : s.faultStep st (fun t => t.complete i r) =
      (s.modStation st Station.fault).completeEach (s.faultOrder st i) (faultResult i r) := by
    have hwalk : ((s.modStation st Station.fault).complete i r).slotsAt st SlotState.isActive =
        (s.walkAt st [.queued, .opened, .parked, .aborting]).filter fun j => decide (j ≠ i) := by
      rw [State.slotsAt_complete (by exact hs) (by exact SlotState.canComplete_of_isActive hact),
        ← State.slotsAt_eq_walkAt SlotState.isActive_eq]
      rfl
    rw [State.faultStep, State.faultOrder, State.completeEach_cons]
    rw [hwalk, State.completeAll_eq, faultResult, if_pos rfl]
    refine State.completeEach_congr (fun j hj => ?_) _
    rw [faultResult, if_neg (by simpa using (List.mem_filter.mp hj).2)]
  rw [heq]
  refine cascade_completeEach hs ?_ ?_ rfl rfl
  · refine List.nodup_cons.mpr ⟨by simp, List.Nodup.filter _ ?_⟩
    exact (State.nodup_walkOrder hs).filter _
  · intro j hj
    rcases List.mem_cons.mp hj with he | hj
    · rw [he]
      exact ⟨hact, hd⟩
    · obtain ⟨-, hst, hstate⟩ := State.mem_walkAt_iff.mp (List.mem_filter.mp hj).1
      exact ⟨by rw [SlotState.isActive_eq]; exact decide_eq_true hstate, hst⟩

theorem SameCore.listsMatch {s t : State} (h : SameCore s t) (hs : s.listsMatch) : t.listsMatch := by
  intro i
  obtain ⟨hstate, -, -, -, -, -, -, hdesc⟩ := h.slot i
  have hcount : ∀ c, (t.slot i).listCount c = (s.slot i).listCount c := fun c => by
    rw [Slot.listCount, hstate, hdesc, Slot.listCount]
  rw [h.urgent, h.normal, hcount, hcount]
  exact hs i

theorem SameCore.walkAt {s t : State} (h : SameCore s t) (st : StationId) (states : List SlotState) :
    t.walkAt st states = s.walkAt st states := by
  rw [State.walkAt, State.walkOrder, h.urgent, h.normal]
  refine List.filter_congr fun i _ => ?_
  obtain ⟨hstate, -, -, -, -, -, -, hdesc⟩ := h.slot i
  rw [hstate, hdesc]

/-- What an event leaves that completes a list of slots of one station: the core of the statements about such an event. -/
structure CascadeDone (s u : State) (st : StationId) (q : Station) (ids : List SlotId) (r : SlotId → Result) : Prop where
  order : s.completesInOrder u ids fun j => (r j).outcome
  slot_not_mem : ∀ j, j ∉ ids → u.slot j = s.slot j
  station_self : u.station st = q
  station_ne : ∀ v, v ≠ st → u.station v = s.station v

/-- A cascade on a state whose slots outside the cascade are those before the event, announced at its end. -/
theorem Cascade.done {s t u v : State} {st : StationId} {q : Station} {ids : List SlotId} {r : SlotId → Result}
    (h : Cascade t u st q ids r) (hs : SameCore s t) (hslot : ∀ j, j ∉ ids → t.slot j = s.slot j)
    (hstation : ∀ w, w ≠ st → t.station w = s.station w) (hv : SameCore u v) (hvslot : ∀ j, v.slot j = u.slot j)
    (hvstation : ∀ w, v.station w = u.station w)
    (hr : ∀ i ∈ ids, (r i).stationStatus = none ∧ (r i).lateStop = false) : CascadeDone s v st q ids r := by
  obtain ⟨hc, hself, hne, -⟩ := h
  refine ⟨hc.completesInOrder hs hv fun i hi => ⟨rfl, (hr i hi).1, (hr i hi).2⟩, fun j hj => ?_, ?_, fun w hw => ?_⟩
  · rw [hvslot, hc.slot_not_mem j hj, hslot j hj]
  · rw [hvstation, hself]
  · rw [hvstation, hne w hw, hstation w hw]

end Sys2Proof.Machine

/-! The fault step at a slot's frame: a failure that reaches the threshold, and an ABORT that ends unconfirmed (R72 to R74,
R152, R153). -/

namespace Sys2Proof.Machine

theorem State.faultStep_congr {s : State} {st : StationId} {cause other : State → State}
    (h : cause (s.modStation st Station.fault) = other (s.modStation st Station.fault)) :
    s.faultStep st cause = s.faultStep st other := by
  rw [State.faultStep, State.faultStep, h]

/-- The causing slot of a QUEUED or OPEN slot's frame completes LINK_ERROR or STATION_FAULT (R74). -/
theorem State.faultStep_completeCause {s : State} {f : Frame} {i : SlotId} (h : (s.slot i).offers f) (st : StationId)
    (violation : Bool) : s.faultStep st (fun t => t.completeCause i f.kind violation) = s.faultStep st fun t =>
      t.complete i { outcome :=
        if violation = false ∧ (s.slot i).retriesLeft = 0 then .linkError else .stationFault } := by
  obtain ⟨hsync, hpoll, habort⟩ := Slot.offers_kind h
  have hend : State.completeCause.failEnding (s.modStation st Station.fault) i violation =
      if violation = false ∧ (s.slot i).retriesLeft = 0 then .linkError else .stationFault := by
    rw [State.completeCause.failEnding, State.slot_modStation]
    cases violation <;> simp
  refine State.faultStep_congr ?_
  rw [← hend]
  unfold State.completeCause
  split <;> simp_all

/-- The causing slot of an ABORT completes with its pending outcome and the abort-unconfirmed flag (R74, R153). -/
theorem State.faultStep_endAbort {s : State} {i : SlotId} {o : Ending} (h : (s.slot i).pendingOutcome = some o)
    (st : StationId) (violation : Bool) : s.faultStep st (fun t => t.endAbort i violation) =
      (s.modSlot i fun x => { x with abortAttempts := if x.abortEnds violation then 0 else x.abortAttempts }).faultStep st
        fun t => t.complete i { outcome := o, abortUnconfirmed := true } := by
  have hpend : (((s.modStation st Station.fault).modSlot i fun x =>
      { x with abortAttempts := if x.abortEnds violation then 0 else x.abortAttempts }).slot i).pendingOutcome =
        some o := by
    rw [State.slot_modSlot_self]
    exact h
  simp only [State.faultStep, State.endAbort, State.completePending, hpend]
  rfl

theorem sameCore_modSlot {s : State} {i : SlotId} {f : Slot → Slot}
    (h : ∀ x, (f x).state = x.state ∧ (f x).outcome = x.outcome ∧ (f x).stationStatus = x.stationStatus ∧
      (f x).lateStop = x.lateStop ∧ (f x).lifetimeTimer = x.lifetimeTimer ∧ (f x).stopRequest = x.stopRequest ∧
      (f x).bytesMoved = x.bytesMoved ∧ (f x).desc = x.desc) : SameCore s (s.modSlot i f) := by
  refine ⟨fun j => ?_, rfl, rfl, rfl, rfl⟩
  rw [State.slot_modSlot]
  split
  · rename_i he
    rw [he]
    exact h _
  · exact ⟨rfl, rfl, rfl, rfl, rfl, rfl, rfl, rfl⟩

theorem sameCore_failureTaken (s : State) (f : Frame) (i : SlotId) (violation gap : Bool) (n : Nat) :
    SameCore s (s.failureTaken f i violation gap n) := by
  have h : SameCore s (s.modSlot i fun x => { x with inFlight := false }) :=
    sameCore_modSlot fun _ => ⟨rfl, rfl, rfl, rfl, rfl, rfl, rfl, rfl⟩
  exact ⟨h.slot, rfl, rfl, rfl, rfl⟩

/-- What the fault step leaves of a state that differs from the one before the event in the causing slot and its station. -/
theorem faultStep_done {s t : State} {i : SlotId} {st : StationId} {r : Result} (hs : s.listsMatch) (hcore : SameCore s t)
    (hslot : ∀ j, j ≠ i → t.slot j = s.slot j) (hstation : ∀ v, v ≠ st → t.station v = s.station v)
    (hact : (s.slot i).state.isActive = true) (hd : (s.slot i).desc.stationId = some st)
    (hr : r.stationStatus = none ∧ r.lateStop = false) :
    let u := (t.faultStep st fun t => t.complete i r).announceSince s
    CascadeDone s u st (t.station st).fault (s.faultOrder st i) (faultResult i r) ∧
    (∀ j ∈ s.faultOrder st i, u.slot j = (t.slot j).completed (faultResult i r j)) ∧ u.frame = t.frame ∧
    u.silentCount = t.silentCount := by
  intro u
  obtain ⟨hstate, -, -, -, -, -, -, hdesc⟩ := hcore.slot i
  have hcascade := cascade_faultStep (s := t) (i := i) (st := st) r (hcore.listsMatch hs) (by rw [hstate]; exact hact)
    (by rw [hdesc]; exact hd)
  have horder : t.faultOrder st i = s.faultOrder st i := by rw [State.faultOrder, hcore.walkAt, State.faultOrder]
  have hann := announced_announceSince (t.faultStep st fun t => t.complete i r) s
  have honly := hcascade.onlyTables
  rw [horder] at hcascade
  refine ⟨hcascade.done hcore (fun j hj => hslot j fun he => hj (by simp [State.faultOrder, he])) hstation hann.sameCore
    hann.slot hann.station fun j _ => ?_, fun j hj => ?_, ?_, ?_⟩
  · rw [faultResult]
    split
    · exact hr
    · exact ⟨rfl, rfl⟩
  · rw [hann.slot, hcascade.completes.slot_mem j hj]
  · rw [show u = _ from hann, show t.faultStep st _ = _ from honly]
  · rw [show u = _ from hann, show t.faultStep st _ = _ from honly]

/-- A failed reply to a slot's frame at the fault threshold (R73). -/
theorem exec_failed_reached {s : State} {f : Frame} {i : SlotId} {c : Instr} (hs : s.serves f i) (hc : s.failsBy f c)
    (hkeep : s.keepsLink c) (ht : (s.slot i).Takes f.kind f.index)
    (hreached : s.cfg.faultThreshold ≤ (s.station f.station).failures + 1) :
    exec c s = .next ((((s.failureTaken f i (decide (c = .violationReply)) (s.gapAfter f c)
      (s.silentAfter c)).faultStep f.station fun t =>
        t.completeCause i f.kind (decide (c = .violationReply))).announceSince s).afterReport c) := by
  have hl : s.link = .running := hs.1
  rw [exec_of_failsBy hc (by rw [hl]; rfl), State.report_failed hl hc hkeep ht.kind_ne.1,
    State.told_failed hs hc ht ht.kind_ne, if_pos hreached]

/-- The record of the causing slot's station before it is taken to FAULTY, and the other slots and stations. -/
theorem State.failureTaken_rest (s : State) (f : Frame) (i : SlotId) (violation gap : Bool) (n : Nat) :
    (∀ j, j ≠ i → (s.failureTaken f i violation gap n).slot j = s.slot j) ∧
    ∀ v, v ≠ f.station → (s.failureTaken f i violation gap n).station v = s.station v :=
  ⟨fun j hj => State.slot_setSlot_ne s i j _ hj, fun v hv => State.station_setStation_ne s f.station v _ hv⟩

/-- The end of an ABORT as the cause of a fault step: what it leaves (R74, R153). -/
theorem abortFault_done {s : State} {f : Frame} {i : SlotId} {c : Instr} {o : Ending} (hlists : s.listsMatch)
    (hs : s.serves f i) (hstate : (s.slot i).state = .aborting) (hpend : (s.slot i).pendingOutcome = some o) :
    let u := ((s.failureTaken f i (decide (c = .violationReply)) (s.gapAfter f c) (s.silentAfter c)).faultStep f.station
      fun t => t.endAbort i (decide (c = .violationReply))).announceSince s
    CascadeDone s u f.station { s.station f.station with
      state := .faulty, engaged := none, parked := [], backoff := none, pollTimer := .stopped
      failures := (s.station f.station).failures + 1, changed := true } (s.faultOrder f.station i)
      (faultResult i { outcome := o, abortUnconfirmed := true }) ∧
    (∀ j ∈ s.faultOrder f.station i, (u.slot j).abortUnconfirmed = decide (j = i)) ∧
    (u.slot i).retriesUsed = (s.slot i).retriesUsed ∧
    (u.slot i).abortAttempts =
      (if c = .violationReply ∨ (s.slot i).abortAttempts ≤ 1 then 0 else (s.slot i).abortAttempts) ∧
    u.frame = none ∧ u.silentCount = s.silentAfter c := by
  have hslot := s.slot_failureTaken f i (decide (c = .violationReply)) (s.gapAfter f c) (s.silentAfter c)
  have hstation := s.station_failureTaken f i (decide (c = .violationReply)) (s.gapAfter f c) (s.silentAfter c)
  have hcore := sameCore_failureTaken s f i (decide (c = .violationReply)) (s.gapAfter f c) (s.silentAfter c)
  obtain ⟨hslots, hstations⟩ := s.failureTaken_rest f i (decide (c = .violationReply)) (s.gapAfter f c) (s.silentAfter c)
  have hframe : (s.failureTaken f i (decide (c = .violationReply)) (s.gapAfter f c) (s.silentAfter c)).frame = none := rfl
  have hsilent : (s.failureTaken f i (decide (c = .violationReply)) (s.gapAfter f c) (s.silentAfter c)).silentCount =
    s.silentAfter c := rfl
  generalize s.failureTaken f i (decide (c = .violationReply)) (s.gapAfter f c) (s.silentAfter c) = t at *
  have hpend' : (t.slot i).pendingOutcome = some o := by rw [hslot]; exact hpend
  rw [State.faultStep_endAbort hpend']
  have hmod : SameCore t (t.modSlot i fun x =>
      { x with abortAttempts := if x.abortEnds (decide (c = .violationReply)) then 0 else x.abortAttempts }) :=
    sameCore_modSlot fun _ => ⟨rfl, rfl, rfl, rfl, rfl, rfl, rfl, rfl⟩
  have hmem : i ∈ s.faultOrder f.station i := by simp [State.faultOrder]
  intro u
  obtain ⟨hdone, hcompleted, hframe', hsilent'⟩ := faultStep_done (st := f.station) (i := i)
    (r := { outcome := o, abortUnconfirmed := true }) hlists
    (hcore.trans hmod) (fun j hj => by rw [State.slot_modSlot_ne _ _ _ _ hj, hslots j hj]) (fun v hv => hstations v hv)
    (by rw [hstate]; rfl) hs.2.2.2.2.1 ⟨rfl, rfl⟩
  have hi : u.slot i = _ := hcompleted i hmem
  rw [State.slot_modSlot_self, hslot] at hi
  refine ⟨?_, fun j hj => ?_, ?_, ?_, hframe'.trans hframe, hsilent'.trans hsilent⟩
  · have hfault : ((t.modSlot i fun x => { x with
        abortAttempts := if x.abortEnds (decide (c = .violationReply)) then 0 else x.abortAttempts }).station
        f.station).fault = { s.station f.station with
          state := .faulty, engaged := none, parked := [], backoff := none, pollTimer := .stopped
          failures := (s.station f.station).failures + 1, changed := true } := by
      rw [State.station_modSlot, hstation]
      rfl
    rw [← hfault]
    exact hdone
  · rw [hcompleted j hj, faultResult]
    by_cases he : j = i <;> simp [he, Slot.completed, Slot.close]
  · rw [hi]
    rfl
  · rw [hi]
    simp [Slot.completed, Slot.close, Slot.abortEnds]

theorem faultResult_outcome (i : SlotId) (r : Result) :
    (fun j => (faultResult i r j).outcome) = fun j => if j = i then r.outcome else .stationFault := by
  funext j
  rw [faultResult]
  split <;> rfl

/-- Settles O51: below the threshold an ABORT is owed again, or its end is the cause of a fault step. -/
theorem failedAborts : Obligations.FailedAborts := by
  intro s f i c o hs hc hkeep hk hi hstate hpend hbelow st
  have ht := Slot.takes_abort hk hi hstate
  have hends : ((s.failureTaken f i (decide (c = .violationReply)) (s.gapAfter f c) (s.silentAfter c)).slot i).abortEnds
      (decide (c = .violationReply)) = decide (c = .violationReply ∨ (s.slot i).abortAttempts ≤ 1) := by
    rw [State.slot_failureTaken, Slot.abortEnds, Bool.decide_or]
  have hfail : ∀ u : State, ∀ violation, u.slotFailure i f violation = u.abortFailed i f.station violation :=
    fun u violation => by rw [State.slotFailure, hk]
  rw [exec_failed_below hs hc hkeep ht hbelow, hfail, State.abortFailed, hends]
  constructor
  · intro hne hleft
    rw [if_neg (by simp [hne, hleft]), State.announceSince_of_queue (by rfl), decide_eq_false hne]
    refine congrArg (fun v : State => Host.Outcome.next (v.afterReport c)) ?_
    rw [State.modSlot, State.modSlot, State.slot_failureTaken, hleft]
  · intro hlists hviolates ids
    have hend : c = .violationReply ∨ (s.slot i).abortAttempts ≤ 1 := hviolates.imp_right fun h => h.le
    obtain ⟨⟨horder, hnot, hself, hne⟩, hflag, hused, hattempts, hframe, hsilent⟩ :=
      abortFault_done (c := c) hlists hs hstate hpend
    rw [if_pos (decide_eq_true hend)]
    rw [faultResult_outcome] at horder
    exact ⟨_, rfl, horder, hflag, by rw [hattempts, if_pos hend], hself, hne, hnot, hframe⟩

/-- Settles O50: the fault step's cause is the slot of the frame, and the others follow in walk order. -/
theorem faultCascade : Obligations.FaultCascade := by
  intro s f i c pending hlists hs hc hkeep hreached hframe st first ids
  rcases hframe with ho | ⟨hk, hi, hstate, hpend⟩
  · have ht := Slot.takes_of_offers ho
    obtain ⟨-, -, habort⟩ := Slot.offers_kind ho
    have hslot := s.slot_failureTaken f i (decide (c = .violationReply)) (s.gapAfter f c) (s.silentAfter c)
    have hstation := s.station_failureTaken f i (decide (c = .violationReply)) (s.gapAfter f c) (s.silentAfter c)
    have ho' : ((s.failureTaken f i (decide (c = .violationReply)) (s.gapAfter f c) (s.silentAfter c)).slot i).offers f := by
      rw [hslot]
      exact ho
    have hfirst : first = if decide (c = .violationReply) = false ∧ ((s.failureTaken f i (decide (c = .violationReply))
        (s.gapAfter f c) (s.silentAfter c)).slot i).retriesLeft = 0 then .linkError else .stationFault := by
      simp only [first, habort, if_false, hslot, decide_eq_false_iff_not, ne_eq]
    obtain ⟨hslots, hstations⟩ := s.failureTaken_rest f i (decide (c = .violationReply)) (s.gapAfter f c) (s.silentAfter c)
    rw [exec_failed_reached hs hc hkeep ht hreached, State.faultStep_completeCause ho', ← hfirst]
    obtain ⟨⟨horder, hnot, hself, hne⟩, hcompleted, hframe, hsilent⟩ := faultStep_done (i := i) (st := f.station)
      (r := { outcome := first }) hlists (sameCore_failureTaken s f i (decide (c = .violationReply)) (s.gapAfter f c)
        (s.silentAfter c)) hslots hstations ht.isActive hs.2.2.2.2.1 ⟨rfl, rfl⟩
    rw [faultResult_outcome] at horder
    refine ⟨_, rfl, horder, fun j hj => ?_, ?_, fun hk => absurd hk habort, ?_, hne, hnot, hframe, hsilent⟩
    · rw [hcompleted j hj, faultResult]
      by_cases he : j = i <;> simp [he, habort, Slot.completed, Slot.close]
    · rw [hcompleted i (by simp [State.faultOrder]), hslot]
      rfl
    · rw [hself, hstation]
      rfl
  · have ht := Slot.takes_abort hk hi hstate
    have hcause : ∀ t : State, t.completeCause i f.kind (decide (c = .violationReply)) =
        t.endAbort i (decide (c = .violationReply)) := fun t => by rw [hk]; rfl
    have hfirst : first = pending := if_pos hk
    obtain ⟨⟨horder, hnot, hself, hne⟩, hflag, hused, hattempts, hframe, hsilent⟩ :=
      abortFault_done (c := c) hlists hs hstate hpend
    rw [faultResult_outcome] at horder
    rw [exec_failed_reached hs hc hkeep ht hreached, hfirst]
    simp only [hcause]
    refine ⟨_, rfl, horder, fun j hj => ?_, hused, fun _ hend => ?_, hself, hne, hnot, hframe, hsilent⟩
    · rw [hflag j hj]
      simp [hk]
    · rw [hattempts, if_pos (hend.imp_right fun h => h.le)]

end Sys2Proof.Machine

/-! The reports of a station's own frames, POLL and SYNC, and of a frame whose slot a withdrawal has detached
(R68 to R77, R101, R128). -/

namespace Sys2Proof.Machine

/-! ## A detached frame -/

theorem State.counted_of_detached {s : State} {f : Frame} {i : SlotId} (hfs : f.slot = some i)
    (hfl : (s.slot i).inFlight = false) (gap : Bool) (o : FrameOutcome) : s.counted f gap o = { s with
      frame := none, gapPassed := gap, receiver := .waiting, stats := s.stats.countOutcome o } := by
  have hsame : s.slots.set i.val { s.slot i with inFlight := false } = s.slots := by
    have hrec : ({ s.slot i with inFlight := false } : Slot) = s.slot i := by rw [← hfl]
    rw [hrec]
    exact Vector.set_getElem_self _
  rw [State.counted_eq hfs, hsame]

/-- A station outside ONLINE takes no report of a slot's frame that no slot takes. -/
theorem State.reportTables_of_detached {s : State} {f : Frame} (hk : f.kind ∉ [FrameKind.sync, .poll])
    (hoff : (s.station f.station).state ≠ .online) (o : FrameOutcome) : s.reportTables f none o = s := by
  have hclear : s.clearFailures f.station = s := if_neg hoff
  have hback : s.startBackoff f.station = s := if_neg hoff
  have hcount : s.countFailure f.station = s := if_neg hoff
  have hreached : s.faultReached f.station = false := by simp [State.faultReached, hoff]
  have hvalid : ∀ r, s.reportValid f none r = s := fun r => by simp only [State.reportValid, hclear, hback, ite_self]
  have hfailed : ∀ b, s.reportFailure f none b = s := fun b => by
    simp [State.reportFailure, hcount, hreached]
  unfold State.reportTables
  split
  case h_1 hsync => simp [hsync] at hk
  case h_2 hpoll => simp [hpoll] at hk
  case h_3 => exact hvalid _
  all_goals exact hfailed _

theorem State.told_of_detached {s : State} {f : Frame} {i : SlotId} (hfs : f.slot = some i)
    (hfl : (s.slot i).inFlight = false) (hk : f.kind ∉ [FrameKind.sync, .poll])
    (hoff : (s.station f.station).state ≠ .online) (gap : Bool) (o : FrameOutcome) : s.told f gap o = { s with
      frame := none
      gapPassed := gap
      receiver := .waiting
      stats := s.stats.countOutcome o
      silentCount := nextSilentCount s.silentCount f.kind o } := by
  have htables := State.reportTables_of_detached (s := s.counted f gap o) hk
    (by rw [State.station_counted]; exact hoff) o
  rw [State.told, State.slotTaking_of_detached hfs hfl, htables, State.counted_of_detached hfs hfl]

theorem Stats.countOutcome_failed {s : State} {f : Frame} {c : Instr} (h : s.failsBy f c) (n : Stats) :
    n.countOutcome (failureOf c) =
      { n with failedReplies := if c = .violationReply then n.failedReplies else n.failedReplies + 1 } := by
  obtain ⟨-, ⟨-, rfl | rfl⟩ | ⟨-, -, rfl⟩⟩ := h <;> rfl

theorem nextSilentCount_failed {s : State} {f : Frame} {c : Instr} (h : s.failsBy f c) {kind : FrameKind}
    (hk : kind ≠ .sync) : nextSilentCount s.silentCount kind (failureOf c) = s.silentAfter c := by
  simp only [nextSilentCount, (failureOf_of_failsBy h).2.1, hk, if_false, State.silentAfter]

theorem not_replyTimeout_command (r : Reply) : r.command ≠ .replyTimeout := by cases r <;> nofun

/-- Settles O21: no slot takes the report and the station counts nothing, so the frame's end alone is left. -/
theorem detachedReportsChangeNoSlot : Obligations.DetachedReportsChangeNoSlot := by
  intro s f i hl hf hfs hfl hoff hk ended
  have hsync : f.kind ≠ .sync := fun e => hk (by simp [e])
  refine ⟨fun r hp hv hg => ?_, fun c hc hkeep => ?_⟩
  · rw [exec_reply hf hp hg, if_pos hv, State.report_running hl hsync (by simp),
      State.told_of_detached hfs hfl hk hoff, State.announceSince_of_queue (by rfl), Stats.countOutcome_valid]
    simp [ended, State.gapAfter, State.silentAfter, not_replyTimeout_command, nextSilentCount]
  · rw [exec_of_failsBy hc (by rw [hl]; rfl), State.report_failed hl hc hkeep hsync,
      State.told_of_detached hfs hfl hk hoff, State.announceSince_of_queue (by rfl), Stats.countOutcome_failed hc,
      nextSilentCount_failed hc hsync]

/-! ## POLL -/

/-- The poll timer at the end of a POLL to an ONLINE station (R76, R127). -/
theorem State.restartPollTimer_of_held {s : State} {st : StationId} (hon : (s.station st).state = .online)
    (h : (s.station st).pollTimer = .held) : s.restartPollTimer st = s.setStation st { s.station st with
      pollTimer := if (s.station st).parked.any (fun i => !(s.slot i).ready) then .running s.cfg.pollInterval
        else .stopped } := by
  have hcond : s.pollCondition st = (s.station st).parked.any fun i => !(s.slot i).ready := by
    rw [State.pollCondition, decide_eq_true hon, Bool.true_and]
  rw [State.restartPollTimer, if_pos h, hcond]
  rfl

theorem State.clearFailures_of_online {s : State} {st : StationId} (h : (s.station st).state = .online) :
    s.clearFailures st = s.setStation st { s.station st with failures := 0 } := if_pos h

theorem State.countFailure_of_online {s : State} {st : StationId} (h : (s.station st).state = .online) :
    s.countFailure st = s.setStation st { s.station st with failures := (s.station st).failures + 1 } := if_pos h

theorem State.takeReady_of_online {s : State} {st : StationId} (h : (s.station st).state = .online) (tag : SlotId) :
    s.takeReady st tag = s.setSlot tag { s.slot tag with ready := true } := if_pos h

/-- The end of a POLL whose station's record has been written as `r` (R76, R128). -/
theorem State.restartPollTimer_setStation {s : State} {st : StationId} {r : Station} (hon : r.state = .online)
    (h : r.pollTimer = .held) : (s.setStation st r).restartPollTimer st = s.setStation st { r with
      pollTimer := if r.parked.any (fun i => !(s.slot i).ready) then .running s.cfg.pollInterval else .stopped } := by
  have hself := State.station_setStation_self s st r
  rw [State.restartPollTimer_of_held (by rw [hself]; exact hon) (by rw [hself]; exact h), hself,
    State.setStation_setStation]
  rfl

theorem exec_pollReply {s : State} {f : Frame} {r : Reply} (hl : s.link = .running) (hf : s.frame = some f)
    (hp : f.phase = .receiving) (hk : f.kind = .poll) (hv : s.replyValid f r = true)
    (hg : ∀ payload, r = .give payload → payload.length ≤ 64) :
    exec r.command s = .next ((s.told f false (.valid r)).announceSince s) := by
  rw [exec_reply hf hp hg, if_pos hv, State.report_running hl (by simp [hk]) (by simp)]

/-- A POLL's valid reply NOTHING at an ONLINE station (R128). -/
theorem State.reportPoll_nothing {s : State} {st : StationId} (hon : (s.station st).state = .online)
    (hheld : (s.station st).pollTimer = .held) : s.reportPoll st (.valid .nothing) = s.setStation st { s.station st with
      failures := 0
      pollTimer := if (s.station st).parked.any (fun i => !(s.slot i).ready) then .running s.cfg.pollInterval
        else .stopped } := by
  show (s.clearFailures st).restartPollTimer st = _
  rw [State.clearFailures_of_online hon, State.restartPollTimer_setStation (by exact hon)]
  exact hheld

/-- A POLL's valid reply READY at an ONLINE station: the flag is set, and then the timer ends (R76, R128). -/
theorem State.reportPoll_ready {s : State} {st : StationId} (hon : (s.station st).state = .online)
    (hheld : (s.station st).pollTimer = .held) (tag : SlotId) : s.reportPoll st (.valid (.ready tag)) =
      (s.setSlot tag { s.slot tag with ready := true }).setStation st { s.station st with
        failures := 0
        pollTimer := if (s.station st).parked.any (fun i => decide (i ≠ tag) && !(s.slot i).ready) then
          .running s.cfg.pollInterval else .stopped } := by
  have hwaits : (fun i => !((s.setSlot tag { s.slot tag with ready := true }).slot i).ready) =
      fun i => decide (i ≠ tag) && !(s.slot i).ready := by
    funext i
    rw [State.slot_setSlot]
    by_cases hi : i = tag <;> simp [hi]
  rw [State.reportPoll, State.clearFailures_of_online hon]
  dsimp only
  rw [State.takeReady_of_online (by rw [State.station_setStation_self]; exact hon), State.setSlot_setStation,
    State.slot_setStation, State.restartPollTimer_setStation (by exact hon) (by exact hheld)]
  rw [hwaits]
  rfl

/-- A POLL's valid reply is told to its station alone. -/
theorem State.told_poll {s : State} {f : Frame} (hk : f.kind = .poll) (hfs : f.slot = none) (gap : Bool)
    (o : FrameOutcome) : s.told f gap o = ((State.reportPoll { s with
      frame := none, gapPassed := gap, receiver := .waiting, stats := s.stats.countOutcome o } f.station o)).withSilent
        (nextSilentCount s.silentCount f.kind o) := by
  have htables : (s.counted f gap o).reportTables f (s.slotTaking f) o = (s.counted f gap o).reportPoll f.station o := by
    unfold State.reportTables
    rw [hk]
  have hsilent : ((s.counted f gap o).reportPoll f.station o).silentCount = s.silentCount := by
    rw [(reportScope_reportPoll _ _ _).silentCount, State.counted_eq_of_noSlot hfs]
  rw [State.told, htables, hsilent, State.counted_eq_of_noSlot hfs]
  rfl

/-- Settles O42: the reply is taken on the station's record with its failures at 0, and the held timer ends. -/
theorem pollReplies : Obligations.PollReplies := by
  intro s f hl hf hp hk hfs hon hheld r ended
  constructor
  · have hv : s.replyValid f .nothing = true := State.replyValid_iff.mpr ⟨by rw [hk]; rfl, rfl⟩
    have htold : s.told f false (.valid .nothing) = ended s.slots fun i => !(s.slot i).ready := by
      rw [State.told_poll hk hfs, State.reportPoll_nothing (by exact hon) (by exact hheld)]
      rfl
    rw [show Instr.nothing = Reply.nothing.command from rfl, exec_pollReply hl hf hp hk hv nofun, htold,
      State.announceSince_of_queue (by rfl)]
  · intro tag htag
    have hv : s.replyValid f (.ready tag) = true :=
      State.replyValid_iff.mpr ⟨by rw [hk]; rfl, List.contains_iff_mem.mpr htag⟩
    have htold : s.told f false (.valid (.ready tag)) =
        ended (s.slots.set tag.val { s.slot tag with ready := true }) fun i => decide (i ≠ tag) && !(s.slot i).ready := by
      rw [State.told_poll hk hfs, State.reportPoll_ready (by exact hon) (by exact hheld)]
      rfl
    rw [show Instr.ready tag = (Reply.ready tag).command from rfl, exec_pollReply hl hf hp hk hv nofun, htold,
      State.announceSince_of_queue (by rfl)]

/-! ## A failed POLL -/

theorem State.faultReached_setStation {s : State} {st : StationId} {r : Station} (h : r.state = .online) :
    (s.setStation st r).faultReached st = decide (s.cfg.faultThreshold ≤ r.failures) := by
  rw [State.faultReached, State.station_setStation_self, h]
  rfl

/-- A failed POLL at an ONLINE station (R72, R73, R128). -/
theorem State.reportPoll_failed {s : State} {st : StationId} {o : FrameOutcome} (ho : ∀ r, o ≠ .valid r)
    (hon : (s.station st).state = .online) (hheld : (s.station st).pollTimer = .held) : s.reportPoll st o =
      if s.cfg.faultThreshold ≤ (s.station st).failures + 1 then
        (s.setStation st { s.station st with failures := (s.station st).failures + 1 }).faultStep st id
      else s.setStation st { s.station st with
        failures := (s.station st).failures + 1
        pollTimer := if (s.station st).parked.any (fun i => !(s.slot i).ready) then .running s.cfg.pollInterval
          else .stopped } := by
  have hcase : s.reportPoll st o = if (s.countFailure st).faultReached st then (s.countFailure st).faultStep st id
      else (s.countFailure st).restartPollTimer st := by
    cases o with
    | valid r => exact absurd rfl (ho r)
    | silent | garbled | violation => rfl
  rw [hcase, State.countFailure_of_online hon, State.faultReached_setStation (by exact hon),
    State.restartPollTimer_setStation (by exact hon) (by exact hheld)]
  simp only [decide_eq_true_eq]

/-- Settles O43: the failure is counted, and then the held timer ends or the fault step is taken. -/
theorem failedPolls : Obligations.FailedPolls := by
  intro s f c hl hc hk hfs hon hheld hkeep st r failed
  obtain ⟨-, -, hvalid⟩ := failureOf_of_failsBy hc
  have hsync : f.kind ≠ .sync := by simp [hk]
  have hexec : exec c s = .next (((s.told f (s.gapAfter f c) (failureOf c)).announceSince s).afterReport c) := by
    rw [exec_of_failsBy hc (by rw [hl]; rfl), State.report_failed hl hc hkeep hsync]
  have htold : s.told f (s.gapAfter f c) (failureOf c) =
      if s.cfg.faultThreshold ≤ r.failures + 1 then
        (failed (s.stations.set st.val { r with failures := r.failures + 1 })).faultStep st id
      else failed (s.stations.set st.val { r with
        failures := r.failures + 1
        pollTimer := if r.parked.any (fun i => !(s.slot i).ready) then .running s.cfg.pollInterval else .stopped }) := by
    rw [State.told_poll hk hfs, State.reportPoll_failed hvalid (by exact hon) (by exact hheld),
      Stats.countOutcome_failed hc, nextSilentCount_failed hc hsync]
    by_cases hreached : s.cfg.faultThreshold ≤ r.failures + 1
    · rw [if_pos (by exact hreached), if_pos hreached, ← State.withSilent_faultStep _ _ _ fun _ => rfl]
      rfl
    · rw [if_neg (by exact hreached), if_neg hreached]
      rfl
  rw [hexec, htold]
  constructor
  · intro hbelow
    rw [if_neg (not_le.mpr hbelow)]
    exact congrArg (fun v : State => Host.Outcome.next (v.afterReport c)) (State.announceSince_of_queue rfl)
  · intro hreached hlists ids
    rw [if_pos hreached]
    have hstation : (failed (s.stations.set st.val { r with failures := r.failures + 1 })).station st =
        { r with failures := r.failures + 1 } := State.station_setStation_self s st _
    have hcore : SameCore s (failed (s.stations.set st.val { r with failures := r.failures + 1 })) :=
      ⟨fun _ => ⟨rfl, rfl, rfl, rfl, rfl, rfl, rfl, rfl⟩, rfl, rfl, rfl, rfl⟩
    have hothers : ∀ v, v ≠ st → (failed (s.stations.set st.val { r with failures := r.failures + 1 })).station v =
        s.station v := fun v hv => State.station_setStation_ne s st v _ hv
    have hframe : (failed (s.stations.set st.val { r with failures := r.failures + 1 })).frame = none ∧
        (failed (s.stations.set st.val { r with failures := r.failures + 1 })).silentCount = s.silentAfter c := ⟨rfl, rfl⟩
    have hslots : ∀ j, (failed (s.stations.set st.val { r with failures := r.failures + 1 })).slot j = s.slot j :=
      fun _ => rfl
    generalize failed (s.stations.set st.val { r with failures := r.failures + 1 }) = t at *
    have hcascade := cascade_completeAll (g := Station.fault) (st := st) .stationFault (hcore.listsMatch hlists)
      SlotState.isActive_eq (by simp [SlotState.isActive]) rfl rfl
    have hann := announced_announceSince (t.faultStep st id) s
    rw [hcore.walkAt] at hcascade
    obtain ⟨horder, hnot, hself, hne⟩ := hcascade.done hcore (fun j _ => hslots j) hothers hann.sameCore hann.slot
      hann.station fun _ _ => ⟨rfl, rfl⟩
    refine ⟨_, rfl, horder, hnot, ?_, hne, ?_, ?_⟩
    · rw [hself, hstation]
      rfl
    · rw [hann, show t.faultStep st id = _ from hcascade.onlyTables]
      exact hframe.1
    · rw [hann, show t.faultStep st id = _ from hcascade.onlyTables]
      exact hframe.2

end Sys2Proof.Machine

/-! The reports of SYNC and the station commands that end a station's service at once (R66 to R71, R175). -/

namespace Sys2Proof.Machine

/-! ## The passage from STARTING to RUNNING -/

theorem Station.owesSync_eq_false {r : Station} :
    r.owesSync = false ↔ r.state ≠ .probing ∧ r.state ≠ .withdrawing := by simp [Station.owesSync]

theorem State.all_quietStations (s : State) :
    s.stations.toList.all (fun r => !r.owesSync) = true ↔ ∀ v, (s.station v).owesSync = false := by
  rw [List.all_eq_true]
  constructor
  · intro h v
    have hmem : s.station v ∈ s.stations.toList := by
      rw [Vector.mem_toList_iff]
      exact Vector.getElem_mem _
    simpa using h _ hmem
  · intro h r hr
    rw [Vector.mem_toList_iff] at hr
    obtain ⟨k, hk, rfl⟩ := Vector.getElem_of_mem hr
    simpa [State.station] using h ⟨k, hk⟩

theorem State.linkPasses_congr {s u : State} {p q : Prop} (h : p ↔ q) (hu : s.linkPasses u p) : s.linkPasses u q := by
  rwa [← propext h]

/-- The passage is taken when no frame is in flight and no station is left to probe (R175). -/
theorem State.linkPasses_enterRunningIfProbed {s t : State} (hl : t.link = s.link) (hc : t.linkCause = s.linkCause) :
    s.linkPasses t.enterRunningIfProbed (t.frame = none ∧ ∀ v, (t.station v).owesSync = false) := by
  have hiff : (t.link = .starting ∧ t.frame = none ∧ t.stations.toList.all (fun r => !r.owesSync) = true) ↔
      s.link = .starting ∧ t.frame = none ∧ ∀ v, (t.station v).owesSync = false := by
    rw [State.all_quietStations, hl]
  unfold State.enterRunningIfProbed
  constructor
  · intro h
    rw [if_pos (hiff.mpr h)]
    exact ⟨rfl, rfl⟩
  · intro h
    rw [if_neg (mt hiff.mp h)]
    exact ⟨hl, hc⟩

/-- From `u` to `v` nothing has changed but the announcement, the link and the command status. -/
abbrev Settled (u v : State) : Prop := v = { u with
  completionCause := v.completionCause, unannounced := v.unannounced, holdoffTimer := v.holdoffTimer
  link := v.link, linkCause := v.linkCause, status := v.status, statusSlot := v.statusSlot }

theorem Settled.trans {u v w : State} (h : Settled u v) (k : Settled v w) : Settled u w := Eq.trans k (by rw [h])

theorem settled_announceSince (u s : State) : Settled u (u.announceSince s) := by
  have h := announced_announceSince u s
  rw [show u.announceSince s = _ from h]

theorem settled_enterRunningIfProbed (u : State) : Settled u u.enterRunningIfProbed := by
  unfold State.enterRunningIfProbed
  split <;> rfl

theorem Settled.slot {u v : State} (h : Settled u v) (i : SlotId) : v.slot i = u.slot i := by rw [h]; rfl

theorem Settled.station {u v : State} (h : Settled u v) (st : StationId) : v.station st = u.station st := by
  rw [h]; rfl

theorem Settled.frame {u v : State} (h : Settled u v) : v.frame = u.frame := by rw [h]

theorem Settled.gapPassed {u v : State} (h : Settled u v) : v.gapPassed = u.gapPassed := by rw [h]

theorem Settled.silentCount {u v : State} (h : Settled u v) : v.silentCount = u.silentCount := by rw [h]

theorem Settled.sameCore {u v : State} (h : Settled u v) : SameCore u v := by
  rw [h]
  exact ⟨fun _ => ⟨rfl, rfl, rfl, rfl, rfl, rfl, rfl, rfl⟩, rfl, rfl, rfl, rfl⟩

theorem State.linkPasses_announceSince {s u t : State} {p : Prop} (h : s.linkPasses u p) :
    s.linkPasses (u.announceSince t) p := by
  have hann := announced_announceSince u t
  have hlink : (u.announceSince t).link = u.link ∧ (u.announceSince t).linkCause = u.linkCause := by
    rw [show u.announceSince t = _ from hann]
    exact ⟨rfl, rfl⟩
  rw [State.linkPasses, hlink.1, hlink.2]
  exact h

/-- With one station's record written, no station is left to probe when that record is none that is probed and no other is. -/
theorem State.noProbe_iff {s t : State} {st : StationId} {q : Station} (hself : t.station st = q)
    (hne : ∀ v, v ≠ st → t.station v = s.station v) :
    (∀ v, (t.station v).owesSync = false) ↔ q.owesSync = false ∧ s.noOtherProbe st := by
  constructor
  · intro h
    exact ⟨hself ▸ h st, fun v hv => Station.owesSync_eq_false.mp (hne v hv ▸ h v)⟩
  · intro ⟨hq, hothers⟩ v
    by_cases hv : v = st
    · rw [hv, hself]
      exact hq
    · rw [hne v hv]
      exact Station.owesSync_eq_false.mpr (hothers v hv)

/-! ## The report of a SYNC -/

/-- A SYNC's report is told to its station, and then the link may pass to RUNNING. -/
theorem State.report_sync {s : State} {f : Frame} (hk : f.kind = .sync) (hfs : f.slot = none)
    (hl : s.link ∈ [LinkState.starting, .running]) (gap : Bool) (o : FrameOutcome) : s.report f gap o =
      (((State.reportSync { s with
        frame := none, gapPassed := gap, receiver := .waiting, stats := s.stats.countOutcome o } f.station o).withSilent
          (if o = .silent then s.silentCount else 0)).enterRunningIfProbed).announceSince s := by
  have htables : (s.counted f gap o).reportTables f (s.slotTaking f) o = (s.counted f gap o).reportSync f.station o := by
    unfold State.reportTables
    rw [hk]
  have hscope := reportScope_reportSync (s.counted f gap o) f.station o
  have hsame : (s.counted f gap o).silentCount = s.silentCount ∧ (s.counted f gap o).link = s.link := by
    rw [State.counted_eq_of_noSlot hfs]
    exact ⟨rfl, rfl⟩
  have hnext : nextSilentCount s.silentCount f.kind o = if o = .silent then s.silentCount else 0 := by
    rw [nextSilentCount, hk, if_pos rfl]
  have htold : s.told f gap o = ((s.counted f gap o).reportSync f.station o).withSilent
      (if o = .silent then s.silentCount else 0) := by
    rw [State.told, htables, hscope.silentCount, hsame.1, hnext]
    rfl
  have hlink : (s.told f gap o).link = s.link := by
    rw [htold]
    exact hscope.link.trans hsame.2
  have hstop : (s.told f gap o).link ≠ .stopping := by
    rw [hlink]
    rcases List.mem_pair.mp hl with h | h <;> simp [h]
  have hrep : (s.told f gap o).reportLink f.kind o = (s.told f gap o).enterRunningIfProbed := by
    rw [State.reportLink, if_neg (by simp [countsSilent, hk]), if_neg hstop, if_pos hk]
  rw [State.report_eq, hrep, htold, State.counted_eq_of_noSlot hfs]

/-- The state to which a SYNC's report is told. -/
def State.ended (s : State) (gap : Bool) (o : FrameOutcome) : State :=
  { s with frame := none, gapPassed := gap, receiver := .waiting, stats := s.stats.countOutcome o }

/-- The end of the event of a SYNC's report whose tables' part leaves `t`. -/
def State.endSync (s t : State) (o : FrameOutcome) : State :=
  (t.withSilent (if o = .silent then s.silentCount else 0)).enterRunningIfProbed.announceSince s

/-- What a SYNC's report leaves. -/
structure SyncDone (s u : State) (st : StationId) (q : Station) (ids : List SlotId) (r : SlotId → Result) (gap : Bool)
    (o : FrameOutcome) : Prop where
  done : CascadeDone s u st q ids r
  frame : u.frame = none
  gapPassed : u.gapPassed = gap
  silentCount : u.silentCount = if o = .silent then s.silentCount else 0
  passes : s.linkPasses u (q.owesSync = false ∧ s.noOtherProbe st)

/-- The end of the event keeps what the tables' part of a SYNC's report leaves. -/
theorem settled_endSync (s t : State) (o : FrameOutcome) :
    Settled (t.withSilent (if o = .silent then s.silentCount else 0)) (s.endSync t o) :=
  (settled_enterRunningIfProbed _).trans (settled_announceSince _ s)

/-- The frame, the gap, the silent count and the link after a SYNC's report (R175, R180). -/
theorem State.endSync_line {s t : State} {st : StationId} {q : Station} {gap : Bool} {o : FrameOutcome}
    (honly : OnlyTables (s.ended gap o) t) (hself : t.station st = q) (hne : ∀ v, v ≠ st → t.station v = s.station v) :
    (s.endSync t o).frame = none ∧ (s.endSync t o).gapPassed = gap ∧
    (s.endSync t o).silentCount = (if o = .silent then s.silentCount else 0) ∧
    s.linkPasses (s.endSync t o) (q.owesSync = false ∧ s.noOtherProbe st) := by
  have hset := settled_endSync s t o
  have hframe : t.frame = none := by rw [show t = _ from honly]; rfl
  refine ⟨?_, ?_, ?_, ?_⟩
  · rw [hset.frame]
    exact hframe
  · rw [hset.gapPassed]
    show t.gapPassed = gap
    rw [show t = _ from honly]
    rfl
  · rw [hset.silentCount]
    rfl
  · refine State.linkPasses_announceSince (State.linkPasses_congr ?_ (State.linkPasses_enterRunningIfProbed ?_ ?_))
    · have hprobe := State.noProbe_iff (s := s) (t := t.withSilent (if o = .silent then s.silentCount else 0)) hself hne
      exact ⟨fun hp => hprobe.mp hp.2, fun hp => ⟨hframe, hprobe.mpr hp⟩⟩
    · show t.link = s.link
      rw [show t = _ from honly]
      rfl
    · show t.linkCause = s.linkCause
      rw [show t = _ from honly]
      rfl

theorem sameCore_ended (s : State) (gap : Bool) (o : FrameOutcome) : SameCore s (s.ended gap o) :=
  ⟨fun _ => ⟨rfl, rfl, rfl, rfl, rfl, rfl, rfl, rfl⟩, rfl, rfl, rfl, rfl⟩

theorem sameCore_endSync (s t : State) (o : FrameOutcome) : SameCore t (s.endSync t o) := by
  have hsilent : SameCore t (t.withSilent (if o = .silent then s.silentCount else 0)) :=
    ⟨fun _ => ⟨rfl, rfl, rfl, rfl, rfl, rfl, rfl, rfl⟩, rfl, rfl, rfl, rfl⟩
  exact hsilent.trans (settled_endSync s t o).sameCore

theorem syncDone_of_cascade {s t : State} {st : StationId} {q : Station} {ids : List SlotId} {r : SlotId → Result}
    {gap : Bool} {o : FrameOutcome} (h : Cascade (s.ended gap o) t st q ids r)
    (hr : ∀ i ∈ ids, (r i).stationStatus = none ∧ (r i).lateStop = false) :
    SyncDone s (s.endSync t o) st q ids r gap o := by
  have hset := settled_endSync s t o
  obtain ⟨hframe, hgap, hsilent, hpass⟩ := State.endSync_line h.onlyTables h.station_self h.station_ne
  exact ⟨h.done (sameCore_ended s gap o) (fun _ _ => rfl) (fun _ _ => rfl) (sameCore_endSync s t o)
    (fun j => hset.slot j) (fun w => hset.station w) hr, hframe, hgap, hsilent, hpass⟩

theorem cascade_modStation (s : State) (st : StationId) (g : Station → Station) (r : SlotId → Result) :
    Cascade s (s.modStation st g) st (g (s.station st)) [] r := by
  obtain ⟨hmem, hnot, hrecs, hseq, hurgent, hnormal⟩ := Completes.nil (s.modStation st g) r
  exact ⟨⟨hmem, hnot, hrecs, hseq, hurgent, hnormal⟩, State.station_modStation_self s st g,
    fun v hv => State.station_modStation_ne s st v g hv, rfl⟩

theorem State.endSync_tables (s t : State) (o : FrameOutcome) :
    (s.endSync t o).queue = t.queue ∧ (s.endSync t o).slots = t.slots := by
  have h := settled_endSync s t o
  rw [show s.endSync t o = _ from h]
  exact ⟨rfl, rfl⟩

/-! ## A failed SYNC -/

theorem exec_failed_sync {s : State} {f : Frame} {c : Instr} (hc : s.failsBy f c) (hk : f.kind = .sync)
    (hfs : f.slot = none) (hl : s.link ∈ [LinkState.starting, .running]) :
    exec c s = .next ((s.endSync ((s.ended (s.gapAfter f c) (failureOf c)).reportSync f.station (failureOf c))
      (failureOf c)).afterReport c) := by
  have hup : s.link.isUp = true := by
    rcases List.mem_pair.mp hl with h | h <;> simp [h, LinkState.isUp]
  rw [exec_of_failsBy hc hup, State.report_sync hk hfs hl]
  rfl

theorem State.reportSync_probing {s : State} {st : StationId} (h : (s.station st).state = .probing) {o : FrameOutcome}
    (ho : ∀ r, o ≠ .valid r) : s.reportSync st o = s.probeFailed st := by
  unfold State.reportSync
  split <;> simp_all

/-- Settles O48: one attempt is lost, or the station is ABSENT and its slots complete in walk order. -/
theorem failedProbes : Obligations.FailedProbes := by
  intro s f c hlists hquiet hl hc hk hfs hprobing st ids
  obtain ⟨-, hsilent, hvalid⟩ := failureOf_of_failsBy hc
  have hs : (s.ended (s.gapAfter f c) (failureOf c)).listsMatch := hlists
  obtain ⟨hengaged, hparked, -, -⟩ := hquiet st (by rw [hprobing]; nofun)
  have hcount : (if failureOf c = .silent then s.silentCount else 0) = if c = .replyTimeout then s.silentCount else 0 := by
    simp only [hsilent]
  rw [exec_failed_sync hc hk hfs hl, State.reportSync_probing (by exact hprobing) hvalid]
  refine ⟨_, rfl, ?_⟩
  by_cases hlast : (s.station st).probeAttempts - 1 = 0
  · have hfail : (s.ended (s.gapAfter f c) (failureOf c)).probeFailed st = _ := if_pos hlast
    have hcascade := cascade_completeAll (st := st) (g := fun r => { r with
      state := .absent, probeAttempts := 0, parkDepth := 0, failures := 0, changed := true })
      (p := fun x => decide (x = .queued) || decide (x = .aborting)) (states := [.queued, .aborting]) .noStation hs (fun x => by cases x <;> rfl) (by simp [SlotState.isActive])
      hengaged hparked
    obtain ⟨⟨horder, hnot, hself, hne⟩, hframe, hgap, hcnt, hpass⟩ :=
      syncDone_of_cascade hcascade fun _ _ => ⟨rfl, rfl⟩
    rw [hfail]
    refine ⟨hframe, hgap, hcnt.trans hcount, fun htwo => absurd hlast (by omega), fun _ => ⟨horder, hnot, hself, ?_⟩, hne⟩
    exact State.linkPasses_congr (by simp [Station.owesSync]) hpass
  · have hfail : (s.ended (s.gapAfter f c) (failureOf c)).probeFailed st = _ := if_neg hlast
    have hcascade := cascade_modStation (s.ended (s.gapAfter f c) (failureOf c)) st
      (fun r => { r with probeAttempts := (s.station st).probeAttempts - 1 }) fun _ => { outcome := .noStation }
    obtain ⟨⟨horder, hnot, hself, hne⟩, hframe, hgap, hcnt, hpass⟩ :=
      syncDone_of_cascade hcascade fun _ _ => ⟨rfl, rfl⟩
    rw [hfail]
    refine ⟨hframe, hgap, hcnt.trans hcount, fun _ => ⟨?_, ?_, hself, ?_⟩, fun hone => absurd hone (by omega), hne⟩
    · exact (s.endSync_tables _ _).1
    · exact (s.endSync_tables _ _).2
    · refine State.linkPasses_congr ?_ hpass
      have howes : ({ s.station st with probeAttempts := (s.station st).probeAttempts - 1 } : Station).owesSync = true := by
        simp [Station.owesSync, st, hprobing]
      exact ⟨fun h => Bool.noConfusion (howes.symm.trans h.1), False.elim⟩

/-! ## A SYNC that is answered, and the end of a withdrawal -/

/-- A valid PRESENT to a SYNC. -/
theorem exec_present {s : State} {f : Frame} {d : Byte} (hf : s.frame = some f) (hp : f.phase = .receiving)
    (hk : f.kind = .sync) (hfs : f.slot = none) (hl : s.link ∈ [LinkState.starting, .running]) (hd : d.toNat ≤ 3) :
    exec (.present d) s = .next (s.endSync ((s.ended false (.valid (.present d))).reportSync f.station
      (.valid (.present d))) (.valid (.present d))) := by
  have hv : s.replyValid f (.present d) = true := State.replyValid_iff.mpr ⟨by rw [hk]; rfl, decide_eq_true hd⟩
  rw [show Instr.present d = (Reply.present d).command from rfl, exec_reply (r := .present d) hf hp nofun, if_pos hv,
    State.report_sync hk hfs hl]
  rfl

/-- The end of a withdrawal completes the station's QUEUED, PARKED and ABORTING slots WITHDRAWN (R71). -/
theorem withdrawal_done {s : State} (st : StationId) (hlists : s.listsMatch) (gap : Bool) (o : FrameOutcome) :
    SyncDone s (s.endSync ((s.ended gap o).finishWithdrawal st) o) st (s.station st).endWithdrawal
      (s.walkAt st [.queued, .parked, .aborting]) (fun _ => { outcome := .withdrawn }) gap o :=
  syncDone_of_cascade (cascade_completeAll (s := s.ended gap o) (g := Station.endWithdrawal)
    (p := fun x => decide (x = .queued) || decide (x = .parked) || decide (x = .aborting))
    (states := [.queued, .parked, .aborting]) .withdrawn hlists (fun x => by cases x <;> rfl)
    (by simp [SlotState.isActive]) rfl rfl) fun _ _ => ⟨rfl, rfl⟩

theorem State.reportSync_withdrawing {s : State} {st : StationId} (h : (s.station st).state = .withdrawing)
    {o : FrameOutcome} (ho : ∀ r, o ≠ .valid r) : s.reportSync st o = s.withdrawFailed st := by
  unfold State.reportSync
  split <;> simp_all

theorem State.reportSync_withdrawing_valid {s : State} {st : StationId} (h : (s.station st).state = .withdrawing)
    (r : Reply) : s.reportSync st (.valid r) = s.finishWithdrawal st := by
  unfold State.reportSync
  split <;> simp_all

/-- Settles O49: an answer and the last failure both end the withdrawal. -/
theorem withdrawalEnds : Obligations.WithdrawalEnds := by
  intro s f c hlists hl hf hk hfs hwith st ids answered
  have hends : ∀ gap o, ∃ u : State, u = s.endSync ((s.ended gap o).finishWithdrawal st) o ∧ u.frame = none ∧
      s.completesInOrder u ids (fun _ => .withdrawn) ∧ (∀ i, i ∉ ids → u.slot i = s.slot i) ∧
      u.station st = { s.station st with
        state := .disabled, withdrawAttempts := 0, parkDepth := 0, failures := 0, changed := true
        engaged := none, parked := [], backoff := none, pollTimer := .stopped } ∧
      (∀ v, v ≠ st → u.station v = s.station v) ∧ s.linkPasses u (s.noOtherProbe st) := fun gap o => by
    obtain ⟨⟨horder, hnot, hself, hne⟩, hframe, -, -, hpass⟩ := withdrawal_done st hlists gap o
    refine ⟨_, rfl, hframe, horder, hnot, hself, hne, State.linkPasses_congr ?_ hpass⟩
    simp [Station.owesSync, Station.endWithdrawal, Station.leaveOnline]
  refine ⟨fun h => ?_, fun hc htwo => ?_⟩
  · rcases h with ⟨hp, d, rfl, hd⟩ | ⟨hc, hone⟩
    · obtain ⟨u, hu, hrest⟩ := hends false (.valid (.present d))
      refine ⟨u, ?_, hrest⟩
      rw [exec_present hf hp hk hfs hl hd, State.reportSync_withdrawing_valid (by exact hwith), hu]
      rfl
    · obtain ⟨-, -, hvalid⟩ := failureOf_of_failsBy hc
      obtain ⟨u, hu, hrest⟩ := hends (s.gapAfter f c) (failureOf c)
      refine ⟨u, ?_, hrest⟩
      have hfail : (s.ended (s.gapAfter f c) (failureOf c)).withdrawFailed st = _ := if_pos hone.le
      rw [exec_failed_sync hc hk hfs hl, State.reportSync_withdrawing (by exact hwith) hvalid, hfail, hu]
  · obtain ⟨-, -, hvalid⟩ := failureOf_of_failsBy hc
    have hfail : (s.ended (s.gapAfter f c) (failureOf c)).withdrawFailed st = _ :=
      if_neg (show ¬ (s.station st).withdrawAttempts ≤ 1 by omega)
    obtain ⟨⟨-, -, hself, hne⟩, hframe, -, -, hpass⟩ := syncDone_of_cascade (cascade_modStation
      (s.ended (s.gapAfter f c) (failureOf c)) st (fun r => { r with withdrawAttempts := r.withdrawAttempts - 1 })
      fun _ => { outcome := .withdrawn }) fun _ _ => ⟨rfl, rfl⟩
    rw [exec_failed_sync hc hk hfs hl, State.reportSync_withdrawing (by exact hwith) hvalid, hfail]
    refine ⟨_, rfl, hframe, (s.endSync_tables _ _).2, (s.endSync_tables _ _).1, ?_, hne, State.linkPasses_congr ?_ hpass⟩
    · rw [hself]
      show { s.station st with withdrawAttempts := (s.station st).withdrawAttempts - 1 } = _
      rw [htwo]
    · have howes : ({ s.station st with withdrawAttempts := (s.station st).withdrawAttempts - 1 } : Station).owesSync =
          true := by
        simp [Station.owesSync, st, hwith]
      exact ⟨fun h => Bool.noConfusion (howes.symm.trans h.1), False.elim⟩

/-! ## A station that comes ONLINE -/

theorem State.slot_foldl_modSlot {ids : List SlotId} (hd : ids.Nodup) (f : Slot → Slot) (s : State) (j : SlotId) :
    (ids.foldl (fun t i => t.modSlot i f) s).slot j = if j ∈ ids then f (s.slot j) else s.slot j := by
  induction ids generalizing s with
  | nil => simp
  | cons i ids ih =>
    obtain ⟨hi, hd⟩ := List.nodup_cons.mp hd
    rw [List.foldl_cons, ih hd, State.slot_modSlot]
    by_cases he : j = i
    · simp [he, hi]
    · simp [he]

theorem State.foldl_modSlot_eq (ids : List SlotId) (f : Slot → Slot) (s : State) :
    ids.foldl (fun t i => t.modSlot i f) s = { s with slots := (ids.foldl (fun t i => t.modSlot i f) s).slots } := by
  induction ids generalizing s with
  | nil => rfl
  | cons i ids ih =>
    rw [List.foldl_cons, ih]
    rfl

/-- Slots that complete with their pending outcomes complete with the results that those give. -/
theorem State.foldl_completePending_eq {pending : SlotId → Ending} {ids : List SlotId} (hd : ids.Nodup) {s : State}
    (hp : ∀ i ∈ ids, (s.slot i).pendingOutcome = some (pending i))
    (hc : ∀ i ∈ ids, (s.slot i).state.canComplete = true) :
    ids.foldl (fun t i => t.completePending i false) s = s.completeEach ids fun i => { outcome := pending i } := by
  induction ids generalizing s with
  | nil => rfl
  | cons i ids ih =>
    obtain ⟨hi, hd⟩ := List.nodup_cons.mp hd
    have hfirst : s.completePending i false = s.complete i { outcome := pending i } := by
      rw [State.completePending, hp i (by simp)]
    have hsame : ∀ j ∈ ids, (s.complete i { outcome := pending i }).slot j = s.slot j := fun j hj => by
      have he : j ≠ i := fun e => hi (e ▸ hj)
      rw [State.slot_complete (hc i (by simp)), if_neg he]
    rw [List.foldl_cons, hfirst, State.completeEach_cons]
    exact ih hd (fun j hj => hsame j hj ▸ hp j (by simp [hj])) fun j hj => hsame j hj ▸ hc j (by simp [hj])

theorem sameCore_foldl_modSlot {f : Slot → Slot} (h : ∀ s i, SameCore s (s.modSlot i f)) (ids : List SlotId) (s : State) :
    SameCore s (ids.foldl (fun t i => t.modSlot i f) s) := by
  induction ids generalizing s with
  | nil => exact .refl s
  | cons i ids ih => exact (h s i).trans (ih _)

theorem Completes.walkOrder {s u : State} {ids : List SlotId} {r : SlotId → Result} (h : Completes s u ids r) :
    u.walkOrder = s.walkOrder.filter fun i => decide (i ∉ ids) := by
  rw [State.walkOrder, h.urgent, h.normal, State.walkOrder, List.filter_append]

/-- After the ABORTING slots have completed the station's QUEUED slots are those of before. -/
theorem Completes.mem_queuedAt {s u : State} {st : StationId} {r : SlotId → Result}
    (h : Completes s u (s.walkAt st [.aborting]) r) (i : SlotId) :
    i ∈ u.slotsAt st (fun x => decide (x = .queued)) ↔ i ∈ s.walkAt st [.queued] := by
  rw [State.mem_slotsAt_iff, State.mem_walkAt_iff, h.walkOrder, List.mem_filter]
  by_cases hi : i ∈ s.walkAt st [.aborting]
  · have hstate : (s.slot i).state = .aborting := by simpa using (State.mem_walkAt_iff.mp hi).2.2
    simp [hi, hstate]
  · simp [hi, h.slot_not_mem i hi]

/-- Settles O44: the ABORTING slots complete on the new record of the station, and then the QUEUED ones forget their OPENs. -/
theorem presentBringsTheStationOnline : Obligations.PresentBringsTheStationOnline := by
  intro s f d pending hlists hquiet hl hf hp hk hfs hprobing hd hpending st ids
  obtain ⟨hengaged, hparked, -, -⟩ := hquiet st (by rw [hprobing]; nofun)
  let o : FrameOutcome := .valid (.present d)
  let x := s.ended false o
  let g : Station → Station := fun r => r.goOnline d.toNat
  have hids : ∀ i ∈ ids, (s.slot i).desc.stationId = some st ∧ (s.slot i).state = .aborting := fun i hi => by
    obtain ⟨-, hst, hstate⟩ := State.mem_walkAt_iff.mp hi
    exact ⟨hst, by simpa using hstate⟩
  have hnodup : ids.Nodup := (State.nodup_walkOrder hlists).filter _
  have hcascade : Cascade x ((x.modStation st g).completeEach ids fun i => { outcome := pending i }) st
      (g (s.station st)) ids fun i => { outcome := pending i } :=
    cascade_completeEach (s := x) hlists hnodup
      (fun i hi => ⟨by rw [show (x.slot i).state = _ from (hids i hi).2]; rfl, (hids i hi).1⟩) hengaged hparked
  have hsettle : (x.modStation st g).settleAborts st =
      (x.modStation st g).completeEach ids fun i => { outcome := pending i } := by
    rw [State.settleAborts, State.slotsAt_eq_walkAt (states := [.aborting]) fun y => by cases y <;> rfl]
    exact State.foldl_completePending_eq hnodup (fun i hi => hpending i (hids i hi).2) fun i hi => by
      rw [show ((x.modStation st g).slot i).state = _ from (hids i hi).2]
      rfl
  generalize hu : (x.modStation st g).completeEach ids (fun i => { outcome := pending i }) = u at *
  have hcompletes := hcascade.completes
  have hqueued : (u.slotsAt st fun y => decide (y = .queued)).Nodup := by
    rw [State.slotsAt, hcompletes.walkOrder]
    exact ((State.nodup_walkOrder hlists).filter _).filter _
  have hforget : (u.forgetOpens st) = { u with slots := (u.forgetOpens st).slots } := State.foldl_modSlot_eq _ _ u
  have hslot : ∀ j, (u.forgetOpens st).slot j =
      if j ∈ s.walkAt st [.queued] then { u.slot j with possiblyOpened := false } else u.slot j := fun j => by
    rw [State.forgetOpens, State.slot_foldl_modSlot hqueued, if_congr (hcompletes.mem_queuedAt j) rfl rfl]
    rfl
  have hcore : SameCore u (u.forgetOpens st) :=
    sameCore_foldl_modSlot (f := fun y => { y with possiblyOpened := false }) (fun _ _ => sameCore_modSlot fun _ => ⟨rfl, rfl, rfl, rfl, rfl, rfl, rfl, rfl⟩) _ u
  have hstation : ∀ v, (u.forgetOpens st).station v = u.station v := fun v => by rw [hforget]; rfl
  have honly : OnlyTables x (u.forgetOpens st) :=
    hcascade.onlyTables.trans (show OnlyTables u _ by rw [OnlyTables, hforget])
  have hset := settled_endSync s (u.forgetOpens st) o
  obtain ⟨hframe, hgap, hsilent, hpass⟩ := State.endSync_line honly ((hstation st).trans hcascade.station_self)
    fun v hv => (hstation v).trans (hcascade.station_ne v hv)
  have hafter : ∀ j, (s.endSync (u.forgetOpens st) o).slot j =
      if j ∈ s.walkAt st [.queued] then { u.slot j with possiblyOpened := false } else u.slot j :=
    fun j => (hset.slot j).trans (hslot j)
  have hreport : x.reportSync st o = u.forgetOpens st := by
    rw [← hsettle]
    have hstate : (x.station st).state = .probing := hprobing
    unfold State.reportSync
    rw [hstate]
    rfl
  have hqueuedState : ∀ i ∈ s.walkAt st [.queued], i ∉ ids := fun i hi hids' => by
    have hq : (s.slot i).state = .queued := by simpa using (State.mem_walkAt_iff.mp hi).2.2
    rw [(hids i hids').2] at hq
    cases hq
  refine ⟨_, (exec_present hf hp hk hfs hl hd).trans (by rw [show (s.ended false (.valid (.present d))).reportSync
      f.station (.valid (.present d)) = _ from hreport]), ?_, ?_, ?_, ?_, ?_, ?_, hframe, hgap, hsilent, ?_⟩
  · exact hcompletes.completesInOrder (sameCore_ended s false o) (hcore.trans (sameCore_endSync s _ o)) fun _ _ =>
      ⟨rfl, rfl, rfl⟩
  · intro i hi
    have hnot : i ∉ s.walkAt st [.queued] := fun h => hqueuedState i h hi
    rw [show (s.endSync _ _).slot i = _ from hafter i, if_neg hnot, hcompletes.slot_mem i hi]
    rfl
  · exact (hset.station st).trans ((hstation st).trans hcascade.station_self)
  · intro i hi
    rw [show (s.endSync _ _).slot i = _ from hafter i, if_pos hi, hcompletes.slot_not_mem i (hqueuedState i hi)]
    rfl
  · intro i hi
    have hnot : i ∉ s.walkAt st [.queued] ∧ i ∉ ids := by
      simp only [ids, State.mem_walkAt_iff, List.mem_cons, List.not_mem_nil, or_false] at hi ⊢
      exact ⟨fun h => hi ⟨h.1, h.2.1, .inl h.2.2⟩, fun h => hi ⟨h.1, h.2.1, .inr h.2.2⟩⟩
    rw [show (s.endSync _ _).slot i = _ from hafter i, if_neg hnot.1, hcompletes.slot_not_mem i hnot.2]
    rfl
  · exact fun v hv => (hset.station v).trans ((hstation v).trans (hcascade.station_ne v hv))
  · refine State.linkPasses_congr ?_ hpass
    simp [g, Station.owesSync, Station.goOnline]

end Sys2Proof.Machine

/-! The commands of slots: POST's refusals and its completion at once, DROP, RELEASE, and the stop requests of CANCEL and the
lifetime timer (R5, R12 to R15, R23, R142 to R145). -/

namespace Sys2Proof.Machine

/-! ## Refusals -/

theorem State.withSlot_of_none (s : State) {op : Byte} (h : 16 ≤ op.toNat) (rule : SlotId → State) :
    s.withSlot op rule = s.answer .badOperand := by
  rw [State.withSlot, slotOperand_none h]

theorem execPost_of_claimed {s : State} {op : Byte} {i : SlotId} (hop : op.toNat = i.val)
    (hst : (s.slot i).state = .claimed) {c : Status} (h : postRefusal (s.slot i) s.freeList.length = some c) :
    exec (.post op) s = .next (s.answer c) := by
  show execPost op s = _
  rw [execPost, s.withSlot_of_operand hop, if_pos hst, h]

theorem Slot.takesStop_eq_false {x : Slot} :
    x.takesStop = false ↔ x.state ∉ [SlotState.queued, .opened, .parked] ∨ x.stopRequest ≠ none := by
  cases hs : x.state <;> cases hr : x.stopRequest <;> simp [Slot.takesStop, hs, hr, SlotState.canStop]

theorem Slot.inRange_eq (x : Slot) : (decide (1 ≤ x.desc.length.toNat) && decide (x.desc.length.toNat ≤ Config.maxLength)) =
    decide (1 ≤ x.len ∧ x.len ≤ 512) := (Bool.decide_and _ _).symm

/-- The checks of R14 for a STORE, in their order. -/
theorem postRefusal_store {x : Slot} (hn : x.desc.stationId ≠ none) (hk : x.desc.kind = .store) (free : Nat) :
    postRefusal x free = if ¬ (1 ≤ x.len ∧ x.len ≤ 512) then some .badDescriptor
      else if x.fillError = true then some .fillError
      else if x.fillCursor < x.len then some .badDescriptor else none := by
  simp only [postRefusal, hn, if_false, hk, x.inRange_eq, Bool.not_eq_true', decide_eq_false_iff_not]
  rfl

/-- The checks of R14 for a FETCH, in their order. -/
theorem postRefusal_fetch {x : Slot} (hn : x.desc.stationId ≠ none) (hk : x.desc.kind = .fetch) (free : Nat) :
    postRefusal x free = if ¬ ((1 ≤ x.len ∧ x.len ≤ 512) ∧ x.fillCursor = 0) then some .badDescriptor
      else if free < (x.len + 31) / 32 then some .noSpace else none := by
  have hres : x.reservation = (x.len + 31) / 32 := by
    rw [Slot.reservation_eq_blocksTaken, Slot.blocksTaken, if_pos hk]
  simp only [postRefusal, hn, if_false, hk, hres, x.inRange_eq, ← Bool.decide_and, Bool.not_eq_true',
    decide_eq_false_iff_not]

/-- The checks of R14 for a CONTROL. -/
theorem postRefusal_control {x : Slot} (hn : x.desc.stationId ≠ none) (hk : x.desc.kind = .control) (free : Nat) :
    postRefusal x free = if x.len = 0 ∧ x.fillCursor = 0 then none else some .badDescriptor := by
  simp only [postRefusal, hn, if_false, hk, Slot.len]
  rfl

/-- Settles O11: the operand, the slot's state, and the checks of R14 in their order. -/
theorem slotCommandRefusals : Obligations.SlotCommandRefusals := by
  intro s op
  refine ⟨fun hop c hc => ?_, fun i hop => ⟨fun hst => ?_, fun hst => ?_, fun hst => ?_⟩⟩
  · have hrefused : ∀ rule, Host.Outcome.next (s.withSlot op rule) =
        (.next (s.answer .badOperand) : Host.Outcome State Fault Refusal) := fun rule => by rw [s.withSlot_of_none hop]
    simp only [List.mem_cons, List.not_mem_nil, or_false] at hc
    rcases hc with rfl | rfl | rfl | rfl | rfl <;> exact hrefused _
  · show execPost op s = _
    rw [execPost, s.withSlot_of_operand hop, if_neg hst]
    rfl
  · show execCancel op s = _
    rw [execCancel, s.withSlot_of_operand hop, if_neg (by simpa using Slot.takesStop_eq_false.mpr hst)]
    rfl
  · intro x refused named
    have hchecks : ∀ {c}, postRefusal x s.freeList.length = some c → refused c := fun h => execPost_of_claimed hop hst h
    have hnamed : named → x.desc.stationId ≠ none := x.desc.stationId_isSome.mpr
    refine ⟨fun h => hchecks ?_, fun h hk hlen => hchecks ?_, fun h hk hone hmax hfill => hchecks ?_,
      fun h hk hone hmax hfill hshort => hchecks ?_, fun h hk hlen => hchecks ?_,
      fun h hk hone hmax hfill hroom => hchecks ?_, fun h hk hlen => hchecks ?_, fun hpass hdis => ?_⟩
    · by_cases hn : x.desc.stationId = none
      · simp [postRefusal, hn]
      · rcases h with h | h
        · exact absurd (x.desc.stationId_isSome.mp hn) h
        · simp [postRefusal, hn, h]
    · rw [postRefusal_store (hnamed h) hk, if_pos (by omega)]
    · rw [postRefusal_store (hnamed h) hk, if_neg (by omega), if_pos hfill]
    · rw [postRefusal_store (hnamed h) hk, if_neg (by omega), if_neg (by simp [hfill]), if_pos hshort]
    · rw [postRefusal_fetch (hnamed h) hk, if_pos (by omega)]
    · rw [postRefusal_fetch (hnamed h) hk, if_neg (by omega), if_pos hroom]
    · rw [postRefusal_control (hnamed h) hk, if_neg (by omega)]
    · show execPost op s = _
      rw [execPost_of_passesPost hop hst hpass, State.postToStation, hdis]
      rfl

/-! ## DROP and RELEASE -/

/-- Settles O12: freeing a slot as one record update, in the one state that each command is taken in. -/
theorem dropAndReleaseFreeTheSlot : Obligations.DropAndReleaseFreeTheSlot := by
  intro s op i hop freed refused
  have hfreed : (s.freeSlot i).answer .done = freed := by
    rw [State.freeSlot_eq]
    rfl
  constructor
  · show execDrop op s = _
    rw [execDrop, s.withSlot_of_operand hop, hfreed]
    rfl
  · show execRelease op s = _
    rw [execRelease, s.withSlot_of_operand hop, hfreed]
    rfl

/-! ## POST that completes at once -/

/-- A slot that no list and no station's record holds completes with its own record alone, the pool and the queue. -/
theorem State.complete_of_unlinked {s : State} {i : SlotId} {r : Result} (hc : (s.slot i).state.canComplete = true)
    (hu : s.unlinked i) : s.complete i r = { s with
      slots := s.slots.set i.val ((s.slot i).completed r)
      freeList := s.freeList ++ (s.slot i).chain.drop (s.slot i).keptBlocks
      queue := s.queue ++ [(s.slot i).recordOf i r s.seqCounter]
      seqCounter := s.seqCounter + 1
      unannounced := s.unannounced + 1 } := by
  obtain ⟨hurgent, hnormal, hstations⟩ := hu
  rw [State.complete_eq_update hc, List.erase_of_not_mem hurgent, List.erase_of_not_mem hnormal,
    State.stationsWithout_of_unheld fun st _ => hstations st]

theorem Slot.keptBlocks_of_unmoved {x : Slot} (h : x.bytesMoved = 0) : x.keptBlocks = 0 := by
  rw [Slot.keptBlocks_eq, h]
  split <;> rfl

/-- Settles O14: the progress fields start, and the slot completes at once. -/
theorem postCompletesAtOnce : Obligations.PostCompletesAtOnce := by
  intro s op i o hop hst hpass hunlinked hstation x
  let t := s.modSlot i fun y => y.startProgress
  have hslot : t.slot i = x.startProgress := State.slot_modSlot_self s i _
  have hpost : s.postToStation i = (((t.complete i { outcome := o }).announceSince s).answer .done) := by
    rw [State.postToStation]
    rcases hstation with ⟨h, rfl⟩ | ⟨h, rfl⟩ <;> rw [h]
  have hc : (t.slot i).state.canComplete = true := by
    rw [hslot]
    show x.state.canComplete = true
    rw [show x.state = .claimed from hst]
    rfl
  have hkept : (t.slot i).keptBlocks = 0 := Slot.keptBlocks_of_unmoved (by rw [hslot]; rfl)
  show execPost op s = _
  rw [execPost_of_passesPost hop hst hpass, hpost, State.announceSince_complete (s := s) _ hc rfl,
    State.complete_of_unlinked hc hunlinked, Slot.completed, hkept, hslot]
  simp only [t, State.modSlot, State.setSlot, Vector.set_set]
  rfl

/-! ## Stop requests -/

theorem execCancel_of_takesStop {s : State} {op : Byte} {i : SlotId} (hop : op.toNat = i.val)
    (h : (s.slot i).takesStop = true) :
    exec (.cancel op) s = .next (((s.takeStop i .cancelled).announceSince s).answer .done).dispatch := by
  show execCancel op s = _
  rw [execCancel, s.withSlot_of_operand hop, if_pos h]

theorem Slot.takesStop_of {x : Slot} (hs : x.state ∈ [SlotState.queued, .opened, .parked])
    (hn : x.stopRequest = none) : x.takesStop = true := by
  rw [← Bool.not_eq_false]
  intro h
  rcases Slot.takesStop_eq_false.mp h with h | h
  · exact h hs
  · exact h hn

/-- The lifetime timer's expiry at a slot that takes the stop request. -/
theorem execLifetimeExpiry_of_takesStop {s : State} {i : SlotId} {n : Nat} (hn : (s.slot i).lifetimeTimer = some n)
    (h : (s.slot i).takesStop = true) : exec (.lifetimeExpiry i) s =
      .next ((((s.modSlot i fun x => { x with lifetimeTimer := none }).takeStop i .timedOut).announceSince s).dispatch) := by
  show execLifetimeExpiry i s = _
  have hstop : ((s.modSlot i fun x => { x with lifetimeTimer := none }).slot i).takesStop = true := by
    rw [State.slot_modSlot_self]
    exact h
  simp only [execLifetimeExpiry, hn, hstop, if_true]

theorem execLifetimeExpiry_of_not_takesStop {s : State} {i : SlotId} {n : Nat}
    (hn : (s.slot i).lifetimeTimer = some n) (h : (s.slot i).takesStop = false) :
    exec (.lifetimeExpiry i) s = .next (s.modSlot i fun x => { x with lifetimeTimer := none }) := by
  show execLifetimeExpiry i s = _
  have hstop : ((s.modSlot i fun x => { x with lifetimeTimer := none }).slot i).takesStop = false := by
    rw [State.slot_modSlot_self]
    exact h
  simp only [execLifetimeExpiry, hn, hstop, Bool.false_eq_true, if_false]

/-- Settles O15: with the slot's frame in flight the request is held, and nothing more. -/
theorem stopIsHeldOverAFrame : Obligations.StopIsHeldOverAFrame := by
  intro s i
  refine ⟨fun hs hstop hfl => ⟨fun op hop => ?_, fun n hn => ?_⟩, fun h n hn => ?_⟩
  · rw [execCancel_of_takesStop hop (Slot.takesStop_of hs hstop), State.takeStop, if_pos hfl,
      State.announceSince_of_queue (by rfl)]
    rfl
  · rw [execLifetimeExpiry_of_takesStop hn (Slot.takesStop_of hs hstop), State.takeStop,
      if_pos (by rw [State.slot_modSlot_self]; exact hfl), State.announceSince_of_queue (by rfl), State.modSlot_modSlot]
    rfl
  · rw [execLifetimeExpiry_of_not_takesStop hn (Slot.takesStop_eq_false.mpr (h.imp_left fun e => by simp [e]))]
    rfl

/-- Settles O16: with no frame of the slot in flight the slot completes or goes to ABORTING. -/
theorem stopActsAtOnce : Obligations.StopActsAtOnce := by
  intro s i st hd hstop hfl aborting expired
  have hslot : expired.slot i = { s.slot i with lifetimeTimer := none } := State.slot_modSlot_self s i _
  have hfl' : (expired.slot i).inFlight = false := by rw [hslot]; exact hfl
  have htake : ∀ (u : State) (k : StopKind), (u.slot i).inFlight = false → u.takeStop i k = u.stopAtOnce i k :=
    fun u k h => by rw [State.takeStop, h]; rfl
  have henter : ∀ (u : State) (o : Ending), (u.slot i).desc.stationId = some st → u.enterAborting i o = aborting u o :=
    fun u o h => by
      rw [State.enterAborting]
      simp only [h]
      rfl
  refine ⟨fun hs hp => ?_, fun hs => ?_⟩
  · have htakes : (s.slot i).takesStop = true := Slot.takesStop_of (by simp [hs]) hstop
    have hat : ∀ (u : State) (k : StopKind), (u.slot i).state = .queued → (u.slot i).possiblyOpened = false →
        u.stopAtOnce i k = u.complete i { outcome := k.ending } := fun u k h1 h2 => by
      rw [State.stopAtOnce, h1, h2]
    have hc : ∀ u : State, (u.slot i).state = .queued → (u.slot i).state.canComplete = true := fun u h => by
      rw [h]
      rfl
    refine ⟨fun op hop => ?_, fun n hn => ?_⟩
    · rw [execCancel_of_takesStop hop htakes, htake s _ hfl, hat s _ hs hp,
        State.announceSince_complete _ (hc s hs) rfl]
      rfl
    · have hs' : (expired.slot i).state = .queued := by rw [hslot]; exact hs
      have hp' : (expired.slot i).possiblyOpened = false := by rw [hslot]; exact hp
      rw [execLifetimeExpiry_of_takesStop hn htakes, htake expired _ hfl', hat expired _ hs' hp',
        State.announceSince_complete (s := s) _ (hc expired hs') rfl]
      rfl
  · have htakes : (s.slot i).takesStop = true := by
      refine Slot.takesStop_of ?_ hstop
      rcases hs with ⟨h, -⟩ | h | h <;> simp [h]
    have hat : ∀ (u : State) (k : StopKind), ((u.slot i).state = .queued ∧ (u.slot i).possiblyOpened = true) ∨
        (u.slot i).state = .opened ∨ (u.slot i).state = .parked → u.stopAtOnce i k = u.enterAborting i k.ending := by
      intro u k h
      rcases h with ⟨h1, h2⟩ | h1 | h1
      · rw [State.stopAtOnce, h1, h2]
      · rw [State.stopAtOnce, h1]
      · rw [State.stopAtOnce, h1]
    have hq : ∀ u o, (aborting u o).queue = u.queue := fun u o => by
      simp only [aborting, State.leaveParked_eq]
      rfl
    refine ⟨fun op hop => ?_, fun n hn => ?_⟩
    · rw [execCancel_of_takesStop hop htakes, htake s _ hfl, hat s _ hs, henter s _ hd,
        State.announceSince_of_queue (hq s _)]
      rfl
    · rw [execLifetimeExpiry_of_takesStop hn htakes, htake expired _ hfl', hat expired _ (by rw [hslot]; exact hs),
        henter expired _ (by rw [hslot]; exact hd), State.announceSince_of_queue (s := s) (hq expired _)]
      rfl

end Sys2Proof.Machine

/-! The commands of stations and of the link: ENABLE_STATION, DISABLE_STATION, LINK_START, LINK_RESUME, LINK_STOP and the events of
LINE_FAULT (R66, R67, R70, R174 to R183). -/

namespace Sys2Proof.Machine

/-! ## Station commands -/

theorem State.withStation_of_operand (s : State) {op : Byte} {st : StationId} (h : op.toNat = st.val + 1)
    (rule : StationId → State) : s.withStation op rule = rule st := by
  rw [State.withStation, stationOperand_eq h]

theorem State.withStation_of_none (s : State) {op : Byte} (h : op.toNat = 0 ∨ 9 ≤ op.toNat) (rule : StationId → State) :
    s.withStation op rule = s.answer .badOperand := by
  rw [State.withStation, stationOperand_none h]

/-- Settles O18: the operand, and the station's state. -/
theorem enableStationAndRefusals : Obligations.EnableStationAndRefusals := by
  intro s op
  refine ⟨fun hop c hc => ?_, fun st hop => ⟨fun hst => ?_, fun hst => ?_, fun hst => ?_⟩⟩
  · have hrefused : ∀ rule, Host.Outcome.next (s.withStation op rule) =
        (.next (s.answer .badOperand) : Host.Outcome State Fault Refusal) := fun rule => by rw [s.withStation_of_none hop]
    rcases List.mem_pair.mp hc with rfl | rfl <;> exact hrefused _
  · show execEnableStation op s = _
    rw [execEnableStation, s.withStation_of_operand hop]
    simp only [List.mem_cons, List.not_mem_nil, or_false] at hst
    rcases hst with h | h | h <;> rw [h] <;> rfl
  · show execEnableStation op s = _
    rw [execEnableStation, s.withStation_of_operand hop]
    simp only [List.mem_cons, List.not_mem_nil, or_false] at hst
    rcases hst with h | h | h <;> rw [h] <;> rfl
  · show execDisableStation op s = _
    rw [execDisableStation, s.withStation_of_operand hop]
    rcases List.mem_pair.mp hst with h | h <;> rw [h] <;> rfl

theorem settled_answer (u : State) (c : Status) : Settled u (u.answer c) := rfl

theorem State.linkPasses_answer {s u : State} {p : Prop} (c : Status) (h : s.linkPasses u p) :
    s.linkPasses (u.answer c) p := h

theorem State.linkPasses_of_same {s u : State} {p : Prop} (hp : ¬ p) (hl : u.link = s.link)
    (hc : u.linkCause = s.linkCause) : s.linkPasses u p :=
  ⟨fun h => absurd h.2 hp, fun _ => ⟨hl, hc⟩⟩

/-- Settles O19: the station's QUEUED and ABORTING slots complete on its new record, and then the link may pass. -/
theorem disableStationAtOnce : Obligations.DisableStationAtOnce := by
  intro s op st hop hlists hquiet hst ids
  have hoff : (s.station st).state ≠ .online := by
    simp only [List.mem_cons, List.not_mem_nil, or_false] at hst
    rcases hst with h | h | h <;> rw [h] <;> nofun
  obtain ⟨hengaged, hparked, -, -⟩ := hquiet st hoff
  have hcascade : Cascade s (s.disableAtOnce st) st (s.station st).disable ids fun _ => { outcome := .withdrawn } :=
    cascade_completeAll (g := Station.disable) (p := fun x => decide (x = .queued) || decide (x = .aborting))
      (states := [.queued, .aborting]) .withdrawn hlists (fun x => by cases x <;> rfl) (by simp [SlotState.isActive])
      hengaged hparked
  have hann := announced_announceSince (s.disableAtOnce st) s
  have honly := hcascade.onlyTables
  have hline : ((s.disableAtOnce st).announceSince s).link = s.link ∧
      ((s.disableAtOnce st).announceSince s).linkCause = s.linkCause ∧
      ((s.disableAtOnce st).announceSince s).frame = s.frame ∧ ((s.disableAtOnce st).announceSince s).mem = s.mem := by
    rw [show (s.disableAtOnce st).announceSince s = _ from hann, show s.disableAtOnce st = _ from honly]
    exact ⟨rfl, rfl, rfl, rfl⟩
  obtain ⟨hlink, hcause, hframe, hmem⟩ := hline
  have hleaves : ∀ u, Settled ((s.disableAtOnce st).announceSince s) u →
      CascadeDone s u st (s.station st).disable ids (fun _ => { outcome := .withdrawn }) := fun u hu => by
    have hset := (settled_announceSince (s.disableAtOnce st) s).trans hu
    exact hcascade.done (.refl s) (fun _ _ => rfl) (fun _ _ => rfl) hset.sameCore hset.slot hset.station
      fun _ _ => ⟨rfl, rfl⟩
  show ∃ u : State, execDisableStation op s = .next u.dispatch ∧ _
  rw [execDisableStation, s.withStation_of_operand hop]
  by_cases hprobing : (s.station st).state = .probing
  · have hset : Settled ((s.disableAtOnce st).announceSince s)
        (((s.disableAtOnce st).announceSince s).enterRunningIfProbed.answer .done) :=
      (settled_enterRunningIfProbed _).trans (settled_answer _ .done)
    obtain ⟨horder, hnot, hself, hne⟩ := hleaves _ hset
    obtain ⟨-, -, hown, hothers⟩ := hleaves ((s.disableAtOnce st).announceSince s) rfl
    have hpass := State.linkPasses_answer .done (State.linkPasses_enterRunningIfProbed hlink hcause)
    rw [hprobing]
    refine ⟨_, rfl, horder, hnot, hself, hne, State.linkPasses_congr ?_ hpass, hset.frame.trans hframe, ?_, rfl, rfl⟩
    · rw [hframe, State.noProbe_iff hown hothers]
      simp [Station.owesSync, Station.disable]
    · rw [hset]
      exact hmem
  · have hset : Settled ((s.disableAtOnce st).announceSince s) (((s.disableAtOnce st).announceSince s).answer .done) :=
      settled_answer _ .done
    obtain ⟨horder, hnot, hself, hne⟩ := hleaves _ hset
    have hcase : (s.station st).state = .absent ∨ (s.station st).state = .faulty := by simpa [hprobing] using hst
    refine ⟨((s.disableAtOnce st).announceSince s).answer .done, ?_, horder, hnot, hself, hne,
      State.linkPasses_of_same (fun h => hprobing h.1) hlink hcause, hframe, hmem, rfl, rfl⟩
    rcases hcase with h | h <;> rw [h]

end Sys2Proof.Machine

/-! The start of a withdrawal: what it leaves of the slots and of its station (R70). -/

namespace Sys2Proof.Machine

/-- The record of a station after the start of its withdrawal, with its parked slots still listed. -/
def Station.releaseEngaged (r : Station) : Station := { r.beginWithdrawal with engaged := none }

/-- The engaged slot of a station completes as the only slot of a cascade, where it is not parked. -/
theorem State.withdrawEngaged_eq {s : State} {st : StationId}
    (h : ∀ i, (s.station st).engaged = some i →
      (s.slot i).state.isActive = true ∧ (s.slot i).desc.stationId = some st ∧ i ∉ (s.station st).parked) :
    (s.modStation st Station.beginWithdrawal).withdrawEngaged st =
      (s.modStation st Station.releaseEngaged).completeEach (s.station st).engaged.toList
        fun _ => { outcome := .withdrawn } := by
  have hfield : ((s.modStation st Station.beginWithdrawal).station st).engaged = (s.station st).engaged := by
    rw [State.station_modStation_self]
    rfl
  unfold State.withdrawEngaged
  rw [hfield]
  cases he : (s.station st).engaged with
  | none => exact State.modStation_modStation ..
  | some i =>
    obtain ⟨hact, hst, hparked⟩ := h i he
    have hc : (s.slot i).state.canComplete = true := SlotState.canComplete_of_isActive hact
    have hunheld : (s.modStation st Station.releaseEngaged).stationsWithout i =
        (s.modStation st Station.releaseEngaged).stations := by
      refine State.stationsWithout_of_unheld fun v hv => ?_
      obtain rfl : st = v := Option.some.inj (hst.symm.trans hv)
      rw [State.station_modStation_self]
      exact ⟨nofun, hparked⟩
    have hself : ((s.modStation st Station.beginWithdrawal).stationsWithout i) =
        s.stations.set st.val ((s.station st).beginWithdrawal.without i fun j => (s.slot j).ready) := by
      unfold State.stationsWithout
      rw [State.slot_modStation, hst]
      show (s.stations.set st.val _).set st.val _ = _
      rw [Vector.set_set, State.station_modStation_self]
      rfl
    show ((s.modStation st Station.beginWithdrawal).complete i _).modStation st _ =
      (s.modStation st Station.releaseEngaged).complete i _
    rw [State.complete_eq_update (s := s.modStation st Station.beginWithdrawal) (by exact hc),
      State.complete_eq_update (s := s.modStation st Station.releaseEngaged) (by exact hc), hunheld, hself]
    have hrecord : { (s.station st).beginWithdrawal.without i (fun j => (s.slot j).ready) with engaged := none } =
        (s.station st).releaseEngaged := by
      simp [Station.without, Station.unpark, Station.releaseEngaged, Station.beginWithdrawal, hparked,
        List.erase_of_not_mem]
    simp only [State.modStation, State.setStation, State.station, Vector.getElem_set_self, Vector.set_set]
    rw [← State.station, hrecord]
    rfl

/-- The frame in flight is of the slot and to the station. -/
def State.carries (s : State) (st : StationId) (i : SlotId) : Bool :=
  s.frame.any fun f => decide (f.station = st ∧ f.slot = some i)

/-- A slot after the start of a withdrawal of a station (R70): the engaged one completes, the parked ones lose their ready flags,
and the frame in flight to the station is detached from its slot. -/
def State.slotBegun (s : State) (st : StationId) (i : SlotId) : Slot :=
  let x := if (s.station st).engaged = some i then (s.slot i).completed { outcome := .withdrawn } else s.slot i
  { x with
    ready := x.ready && !decide (i ∈ (s.station st).parked)
    inFlight := x.inFlight && !s.carries st i }

theorem State.slot_withdrawParked {s : State} {st : StationId} (h : (s.station st).parked.Nodup) (i : SlotId) :
    (s.withdrawParked st).slot i =
      { s.slot i with ready := (s.slot i).ready && !decide (i ∈ (s.station st).parked) } := by
  rw [State.withdrawParked, State.slot_modStation, State.slot_foldl_modSlot h]
  by_cases hi : i ∈ (s.station st).parked <;> simp [hi]

theorem State.slot_detachFrame (s : State) (st : StationId) (i : SlotId) :
    (s.detachFrame st).slot i = { s.slot i with inFlight := (s.slot i).inFlight && !s.carries st i } := by
  unfold State.detachFrame State.carries
  split
  · rename_i f hf
    rw [hf, Option.any_some]
    split
    · rename_i k hk
      rw [hk]
      by_cases hst : f.station = st <;> by_cases hi : k = i
      · simp [hst, hi]
      · simp [hst, hi, State.slot_modSlot_ne _ _ _ _ (Ne.symm hi)]
      · simp [hst]
      · simp [hst]
    · rename_i hk
      simp [hk]
  · rename_i hf
    simp [hf]

/-- Completions in order speak of what `SameCore` keeps. -/
theorem State.completesInOrder_of_sameCore {s u v : State} {ids : List SlotId} {o : SlotId → Ending}
    (h : s.completesInOrder u ids o) (hv : SameCore u v) : s.completesInOrder v ids o := by
  obtain ⟨hmem, hnot, ⟨recs, hqueue, hslots, hseqs⟩, hseq, hurgent, hnormal⟩ := h
  refine ⟨fun i hi => ?_, fun i hi => (hv.slot i).1.trans (hnot i hi), ⟨recs, hv.queue.trans hqueue, hslots, hseqs⟩,
    hv.seqCounter.trans hseq, hv.urgent.trans hurgent, hv.normal.trans hnormal⟩
  obtain ⟨h1, h2, h3, h4, h5, h6, h7, h8⟩ := hv.slot i
  rw [h1, h2, h3, h4, h5, h6, h7, h8]
  exact hmem i hi

/-- What the start of a withdrawal leaves (R70). -/
structure WithdrawalBegun (s t : State) (st : StationId) : Prop where
  order : s.completesInOrder t (s.station st).engaged.toList fun _ => .withdrawn
  slot : ∀ i, t.slot i = s.slotBegun st i
  station_self : t.station st = { (s.station st).releaseEngaged with parked := [] }
  station_ne : ∀ v, v ≠ st → t.station v = s.station v
  onlyTables : OnlyTables s t

theorem State.withdrawParked_eq (s : State) (st : StationId) : s.withdrawParked st =
    { s with slots := (s.withdrawParked st).slots, stations := (s.withdrawParked st).stations } := by
  rw [State.withdrawParked, State.foldl_modSlot_eq]
  rfl

theorem State.detachFrame_eq (s : State) (st : StationId) :
    s.detachFrame st = { s with slots := (s.detachFrame st).slots } := by
  unfold State.detachFrame
  split
  · split
    · split <;> rfl
    · rfl
  · rfl

/-- The start of a withdrawal of a station whose engaged slot and parked slots are those of R64 and R123. -/
theorem withdrawalBegun {s : State} {st : StationId} (hlists : s.listsMatch) (he : s.engagedFits st) (hp : s.parkedFits st) :
    WithdrawalBegun s (s.startWithdrawal st) st := by
  obtain ⟨hnodup, -, hparked⟩ := hp
  have hengaged : ∀ i, (s.station st).engaged = some i →
      (s.slot i).state.isActive = true ∧ (s.slot i).desc.stationId = some st ∧ i ∉ (s.station st).parked := fun i hi => by
    obtain ⟨hstate, hst⟩ := he i hi
    refine ⟨?_, hst, fun hin => ?_⟩
    · rcases hstate with h | h <;> rw [h] <;> rfl
    · rw [(hparked i hin).1] at hstate
      simp at hstate
  have hcascade := cascade_of_unheld (s := s) (st := st) (g := Station.releaseEngaged)
    (ids := (s.station st).engaged.toList) (r := fun _ => { outcome := .withdrawn }) hlists (by cases (s.station st).engaged <;> simp)
    (fun i hi => ⟨(hengaged i (by simpa using hi)).1, (hengaged i (by simpa using hi)).2.1⟩)
    (fun i hi => ⟨nofun, (hengaged i (by simpa using hi)).2.2⟩)
  have hstart : s.startWithdrawal st = (((s.modStation st Station.releaseEngaged).completeEach
      (s.station st).engaged.toList fun _ => { outcome := .withdrawn }).withdrawParked st).detachFrame st := by
    rw [State.startWithdrawal, show (s.modStation st fun r => r.beginWithdrawal) = s.modStation st Station.beginWithdrawal
      from rfl, State.withdrawEngaged_eq hengaged]
  rw [hstart]
  generalize (s.modStation st Station.releaseEngaged).completeEach (s.station st).engaged.toList
    (fun _ => { outcome := .withdrawn }) = u at *
  obtain ⟨hcompletes, hself, hne, honly⟩ := hcascade
  have hlisted : (u.station st).parked = (s.station st).parked := by rw [hself]; rfl
  have hframe : (u.withdrawParked st).frame = s.frame := by
    rw [State.withdrawParked_eq]
    show u.frame = _
    rw [show u = _ from honly]
  have hslot : ∀ i, ((u.withdrawParked st).detachFrame st).slot i = s.slotBegun st i := fun i => by
    have hcarry : (u.withdrawParked st).carries st i = s.carries st i := by rw [State.carries, hframe, State.carries]
    have hu : u.slot i = if (s.station st).engaged = some i then (s.slot i).completed { outcome := .withdrawn }
        else s.slot i := by
      split
      · exact hcompletes.slot_mem i (by simpa)
      · exact hcompletes.slot_not_mem i (by simpa)
    rw [State.slot_detachFrame, State.slot_withdrawParked (hlisted ▸ hnodup), hcarry, hlisted, hu, State.slotBegun]
  have hstation : ∀ v, ((u.withdrawParked st).detachFrame st).station v =
      if v = st then { u.station st with parked := [] } else u.station v := fun v => by
    rw [State.detachFrame_eq]
    show (u.withdrawParked st).station v = _
    rw [State.withdrawParked, State.foldl_modSlot_eq, State.station_modStation]
    rfl
  have hcore : SameCore u ((u.withdrawParked st).detachFrame st) := by
    refine ⟨fun i => ?_, ?_, ?_, ?_, ?_⟩
    · rw [State.slot_detachFrame, State.slot_withdrawParked (hlisted ▸ hnodup)]
      exact ⟨rfl, rfl, rfl, rfl, rfl, rfl, rfl, rfl⟩
    all_goals rw [State.detachFrame_eq, State.withdrawParked_eq]
  refine ⟨hcompletes.completesInOrder (.refl s) hcore fun _ _ => ⟨rfl, rfl, rfl⟩, hslot, ?_, fun v hv => ?_, ?_⟩
  · rw [hstation, if_pos rfl, hself]
  · rw [hstation, if_neg hv, hne v hv]
  · refine honly.trans ?_
    rw [State.detachFrame_eq, State.withdrawParked_eq]
    rfl

/-- Settles O20: a slot with its in-flight flag set is one of the frame to its own station, and is not parked. -/
theorem disableOnlineBeginsWithdrawal : Obligations.DisableOnlineBeginsWithdrawal := by
  intro s op st hop hlists ⟨hstations, hslots⟩ honline
  obtain ⟨hparked, hengaged⟩ := hstations st
  obtain ⟨horder, hslot, hself, hne, honly⟩ := withdrawalBegun hlists hengaged hparked
  have hset : Settled (s.startWithdrawal st) (((s.startWithdrawal st).announceSince s).answer .done) :=
    (settled_announceSince _ s).trans (settled_answer _ .done)
  have hafter : ∀ i, (((s.startWithdrawal st).announceSince s).answer .done).slot i = s.slotBegun st i := fun i =>
    (hset.slot i).trans (hslot i)
  have hflag : ∀ i, (s.slot i).inFlight = true → (s.slot i).state ≠ .parked ∧
      ((s.slot i).desc.stationId ≠ some st → s.carries st i = false) := fun i hi => by
    obtain ⟨-, -, -, -, hfit⟩ := hslots i
    obtain ⟨f, hf, hfi, hdesc, hstate, -, -, -⟩ := hfit hi
    refine ⟨hstate, fun hoff => ?_⟩
    rw [Option.mem_def] at hf
    rw [State.carries, hf]
    simp only [Option.any_some, decide_eq_false_iff_not]
    exact fun h => hoff (hdesc.trans (congrArg some h.1))
  have hline : (((s.startWithdrawal st).announceSince s).answer .done).link = s.link ∧
      (((s.startWithdrawal st).announceSince s).answer .done).frame = s.frame ∧
      (((s.startWithdrawal st).announceSince s).answer .done).mem = s.mem := by
    have hann := announced_announceSince (s.startWithdrawal st) s
    show ((s.startWithdrawal st).announceSince s).link = _ ∧ ((s.startWithdrawal st).announceSince s).frame = _ ∧
      ((s.startWithdrawal st).announceSince s).mem = _
    rw [show (s.startWithdrawal st).announceSince s = _ from hann, show s.startWithdrawal st = _ from honly]
    exact ⟨rfl, rfl, rfl⟩
  obtain ⟨hlink, hframe, hmem⟩ := hline
  show ∃ u : State, execDisableStation op s = .next u.dispatch ∧ _
  rw [execDisableStation, s.withStation_of_operand hop, honline]
  refine ⟨_, rfl, ?_, (hset.station st).trans hself, fun i hi => ?_, fun f hf i hi hst => ?_, fun i hi he hp => ?_,
    fun i hi => ?_, fun v hv => (hset.station v).trans (hne v hv), hframe, hlink, hmem, rfl, rfl⟩
  · exact State.completesInOrder_of_sameCore horder hset.sameCore
  · obtain ⟨-, -, hlisted⟩ := hparked
    have hstate := (hlisted i hi).1
    have hne : (s.station st).engaged ≠ some i := fun h => by
      obtain ⟨h | h, -⟩ := hengaged i h <;> rw [hstate] at h <;> cases h
    have hflagged : (s.slot i).inFlight = false := Bool.eq_false_iff.mpr fun h => (hflag i h).1 hstate
    rw [hafter, State.slotBegun, if_neg hne, hflagged]
    simp [hi, hflagged]
  · have hcarry : s.carries st i = true := by
      rw [Option.mem_def] at hf hi
      simp [State.carries, hf, hi, hst]
    rw [hafter, State.slotBegun, hcarry]
    exact Bool.and_false _
  · rw [hafter, State.slotBegun, if_neg he]
    simp [hp, State.carries]
  · have hne : (s.station st).engaged ≠ some i := fun h => hi (hengaged i h).2
    have hout : i ∉ (s.station st).parked := fun h => hi (hparked.2.2 i h).2
    have hcarry : ((s.slot i).inFlight && !s.carries st i) = (s.slot i).inFlight := by
      cases h : (s.slot i).inFlight with
      | false => rfl
      | true => rw [(hflag i h).2 hi]; rfl
    rw [hafter, State.slotBegun, if_neg hne]
    simp only [hcarry]
    simp [hout]

end Sys2Proof.Machine

/-! The commands of the link and the events of LINE_FAULT (R174 to R183). -/

namespace Sys2Proof.Machine

theorem State.enterStarting_of_probed {s : State} (hf : s.frame = none)
    (hs : ∀ st : StationId, (s.station st).state ≠ .probing ∧ (s.station st).state ≠ .withdrawing) :
    s.enterStarting = { s with
      link := .running, linkCause := true, silentCount := 0, takenRate := s.cfg.bitRate } := by
  have hquiet := s.all_quietStations.mpr fun v => Station.owesSync_eq_false.mpr (hs v)
  exact if_pos ⟨rfl, hf, hquiet⟩

theorem State.enterStarting_of_not_probed {s : State} (h : ¬ (s.frame = none ∧
      ∀ st : StationId, (s.station st).state ≠ .probing ∧ (s.station st).state ≠ .withdrawing)) :
    s.enterStarting = { s with link := .starting, silentCount := 0, takenRate := s.cfg.bitRate } :=
  if_neg fun ⟨_, hf, hquiet⟩ => h ⟨hf, fun st => Station.owesSync_eq_false.mp (s.all_quietStations.mp hquiet st)⟩

/-- LINK_START and LINK_RESUME are one command but for the state that they are taken in (R174, R183). -/
theorem exec_linkStart_or_linkResume {s : State} {c : Instr} {l : LinkState}
    (h : (c = .linkStart ∧ l = .off) ∨ (c = .linkResume ∧ l = .suspended)) :
    exec c s = if s.link = l ∧ s.lineFault = false then .next ((s.enterStarting.answer .done).dispatch)
      else .next (s.answer .linkState) := by
  rcases h with ⟨rfl, rfl⟩ | ⟨rfl, rfl⟩ <;> rfl

theorem State.stopLink_of_frame {s : State} (h : s.frame ≠ none) : s.stopLink = { s with link := .stopping } := if_neg h

theorem State.stopLink_of_idle {s : State} (h : s.frame = none) :
    s.stopLink = (s.linkDown .off .stopped).announceSince s := if_pos h

/-- Settles O22: by the link state, LINE_FAULT and the stations left to probe. -/
theorem linkCommandsAndLineFault : Obligations.LinkCommandsAndLineFault := by
  refine ⟨?_, ?_⟩
  · intro s c l hc
    refine ⟨fun hl hfault => ?_, fun h => ?_⟩
    · intro probed
      rw [exec_linkStart_or_linkResume hc, if_pos ⟨hl, hfault⟩]
      refine ⟨fun h => ?_, fun h => ?_⟩
      · rw [State.enterStarting_of_probed h.1 h.2]
        rfl
      · rw [State.enterStarting_of_not_probed h]
        rfl
    · have hrefused : ¬ (s.link = l ∧ s.lineFault = false) := fun ⟨hl, hfault⟩ =>
        h.elim (· hl) fun h => Bool.noConfusion (hfault.symm.trans h)
      rw [exec_linkStart_or_linkResume hc, if_neg hrefused]
      rfl
  · intro s
    have hstop : exec .linkStop s = execLinkStop s := rfl
    have hassert : exec .lineFaultAsserted s = execLineFaultAsserted s := rfl
    refine ⟨fun hl hf => ?_, fun h => ?_, fun hl => ?_, fun hl => ?_, fun hl => ?_, rfl⟩
    · rcases List.mem_pair.mp hl with h | h <;> rw [hstop, execLinkStop, h, State.stopLink_of_frame hf] <;> rfl
    · rcases h with ⟨hl, hf⟩ | h
      · rcases List.mem_pair.mp hl with h | h <;> rw [hstop, execLinkStop, h, State.stopLink_of_idle hf] <;> rfl
      · rw [hstop, execLinkStop, h]
        rfl
    · have hrefused : execLinkStop s = .next (s.answer .linkState) := by
        rcases List.mem_pair.mp hl with h | h <;> simp only [execLinkStop, h]
      exact hstop.trans hrefused
    · have hup : s.link.isUp = true := by
        simp only [List.mem_cons, List.not_mem_nil, or_false] at hl
        rcases hl with h | h | h <;> rw [h] <;> rfl
      exact hassert.trans (if_pos hup)
    · have hdown : ¬ s.link.isUp = true := by
        rcases List.mem_pair.mp hl with h | h <;> simp [h, LinkState.isUp]
      exact hassert.trans (if_neg hdown)

end Sys2Proof.Machine

/-! The stop or loss step (R60, R78, R178, R179). -/

namespace Sys2Proof.Machine

/-! ## What completions leave of a station -/

/-- A station that some slots may have left: the engaged field, the parked list and the poll timer alone may have changed, and
nothing has of a station that held no slot. -/
structure Station.Released (r q : Station) : Prop where
  rest : q = { r with engaged := q.engaged, parked := q.parked, pollTimer := q.pollTimer }
  unheld : r.engaged = none → r.parked = [] → q = r

theorem Station.Released.refl (r : Station) : r.Released r := ⟨rfl, fun _ _ => rfl⟩

theorem Station.Released.trans {r q p : Station} (h : r.Released q) (k : q.Released p) : r.Released p := by
  refine ⟨k.rest.trans (by rw [h.rest]), fun he hp => ?_⟩
  have hq := h.unheld he hp
  exact (k.unheld (by rw [hq, he]) (by rw [hq, hp])).trans hq

theorem Station.released_without (r : Station) (i : SlotId) (ready : SlotId → Bool) : r.Released (r.without i ready) :=
  ⟨rfl, fun he hp => by
    cases r
    cases he
    cases hp
    rfl⟩

theorem released_complete (s : State) (i : SlotId) (r : Result) (st : StationId) :
    (s.station st).Released ((s.complete i r).station st) := by
  cases hc : (s.slot i).state.canComplete with
  | false => rw [State.complete_other hc]; exact .refl _
  | true =>
    rw [State.station_complete hc]
    by_cases hst : (s.slot i).desc.stationId = some st
    · rw [State.station_stationsWithout hst]
      exact Station.released_without ..
    · rw [State.station_stationsWithout_ne hst]
      exact .refl _

theorem released_completeEach (ids : List SlotId) (r : SlotId → Result) (s : State) (st : StationId) :
    (s.station st).Released ((s.completeEach ids r).station st) := by
  induction ids generalizing s with
  | nil => exact .refl _
  | cons i ids ih => exact (released_complete s i (r i) st).trans (ih _)

/-- A station that is quiet outside ONLINE goes down with the link as if no slot had left it. -/
theorem Station.Released.linkDown {r q : Station} (h : r.Released q) (hr : r.quietUnlessOnline) :
    q.linkDown = r.linkDown := by
  by_cases hon : r.state = .online
  · rw [h.rest]
    simp [Station.linkDown, hon, Station.leaveOnline]
  · obtain ⟨he, hp, -, -⟩ := hr hon
    rw [h.unheld he hp]

/-! ## The abandoned frame -/

theorem State.slot_abandonFrame (s : State) (i : SlotId) : s.abandonFrame.slot i =
    if s.frame.bind Frame.slot = some i then { s.slot i with inFlight := false } else s.slot i := by
  unfold State.abandonFrame
  cases hf : s.frame with
  | none => rfl
  | some f =>
    simp only [Option.bind_some]
    cases hk : f.slot with
    | none => rfl
    | some k =>
      refine (State.slot_modSlot ..).trans ?_
      by_cases hi : i = k
      · rw [if_pos hi, if_pos (congrArg some hi.symm), hi]
        rfl
      · rw [if_neg hi, if_neg fun h => hi (Option.some.inj h).symm]
        rfl

theorem State.abandonFrame_of_none {s : State} (hf : s.frame = none) : s.abandonFrame = s := by
  rw [State.abandonFrame, hf]

/-- An abandonment changes the frame, the fields of the line, and an in-flight flag. -/
theorem State.abandonFrame_eq (s : State) : s.abandonFrame = { s with
    frame := none, gapPassed := s.abandonFrame.gapPassed, receiver := s.abandonFrame.receiver
    slots := s.abandonFrame.slots } := by
  unfold State.abandonFrame
  cases hf : s.frame with
  | none =>
    show s = { s with frame := none }
    rw [← hf]
  | some f =>
    simp only
    cases f.slot <;> rfl

theorem State.abandonFrame_line {s : State} {f : Frame} (hf : s.frame = some f) :
    s.abandonFrame.gapPassed =
      (s.gapPassed && (decide (f.phase = .awaiting) || decide (f.phase = .receiving ∧ s.receiver = .firstByte))) ∧
    s.abandonFrame.receiver = if f.phase = .receiving ∧ s.receiver = .firstByte then .firstByte else .waiting := by
  unfold State.abandonFrame
  rw [hf]
  simp only
  cases f.slot <;> simp

theorem sameCore_abandonFrame (s : State) : SameCore s s.abandonFrame := by
  refine ⟨fun i => ?_, ?_, ?_, ?_, ?_⟩
  · rw [State.slot_abandonFrame]
    split <;> exact ⟨rfl, rfl, rfl, rfl, rfl, rfl, rfl, rfl⟩
  all_goals rw [State.abandonFrame_eq]

theorem State.abandonedSlot_eq_some {s : State} {i : SlotId} :
    s.abandonedSlot = some i ↔ (s.slot i).inFlight = true ∧ ∃ f ∈ s.frame, f.slot = some i := by
  unfold State.abandonedSlot
  cases hf : s.frame with
  | none => simp
  | some f =>
    simp only [Option.mem_def, Option.some.injEq, exists_eq_left']
    cases hk : f.slot with
    | none => simp
    | some k =>
      simp only [Option.some.injEq]
      by_cases hi : k = i
      · simp [hi]
      · simp [hi]

/-! ## The walk of the step -/

/-- The slots that the stop or loss step completes, in their order. -/
def State.linkOrder (s : State) (o : Ending) : List SlotId :=
  s.walkOrder.filter fun i => (s.linkEnding s.abandonedSlot o i).isSome

/-- The result of each slot that the stop or loss step completes. -/
def State.linkResult (s : State) (o : Ending) (i : SlotId) : Result :=
  { outcome := (s.linkEnding s.abandonedSlot o i).getD o }

theorem foldl_complete_eq (g : SlotId → Option Ending) (o : Ending) (ids : List SlotId) (s : State) :
    ids.foldl (fun t i => match g i with | some e => t.complete i { outcome := e } | none => t) s =
      s.completeEach (ids.filter fun i => (g i).isSome) fun i => { outcome := (g i).getD o } := by
  induction ids generalizing s with
  | nil => rfl
  | cons i ids ih =>
    rw [List.foldl_cons, ih, List.filter_cons]
    cases hg : g i with
    | none => rfl
    | some e =>
      rw [if_pos (by rfl), State.completeEach_cons, hg]
      rfl

theorem State.linkEnding_abandonFrame (s : State) (a : Option SlotId) (o : Ending) (i : SlotId) :
    s.abandonFrame.linkEnding a o i = s.linkEnding a o i := by
  obtain ⟨hstate, -, -, -, -, hstop, -, hdesc⟩ := (sameCore_abandonFrame s).slot i
  have hstation : s.abandonFrame.stationStateOf (s.abandonFrame.slot i) = s.stationStateOf (s.slot i) := by
    rw [State.stationStateOf, hdesc, State.stationStateOf]
    rw [State.abandonFrame_eq]
    rfl
  simp only [State.linkEnding, hstate, hstation, hstop]

theorem State.endLinkSlots_abandonFrame (s : State) (o : Ending) :
    s.abandonFrame.endLinkSlots s.abandonedSlot o = s.abandonFrame.completeEach (s.linkOrder o) (s.linkResult o) := by
  have hwalk : s.abandonFrame.walkOrder = s.walkOrder := by
    rw [State.walkOrder, (sameCore_abandonFrame s).urgent, (sameCore_abandonFrame s).normal, State.walkOrder]
  unfold State.endLinkSlots
  simp only [State.linkEnding_abandonFrame]
  rw [hwalk]
  exact foldl_complete_eq _ o _ _

/-! ## The whole step -/

theorem State.linkEnding_isSome {s : State} {a : Option SlotId} {o : Ending} {i : SlotId} (h : (s.linkEnding a o i).isSome) :
    (s.slot i).state.isActive = true := by
  unfold State.linkEnding at h
  split at h <;> simp_all [SlotState.isActive]

theorem completes_linkOrder {s : State} (hs : s.listsMatch) (o : Ending) :
    Completes s.abandonFrame (s.abandonFrame.completeEach (s.linkOrder o) (s.linkResult o)) (s.linkOrder o)
      (s.linkResult o) := by
  obtain ⟨hu, hn⟩ := State.nodup_lists ((sameCore_abandonFrame s).listsMatch hs)
  refine completes_completeEach _ ((State.nodup_walkOrder hs).filter _) (fun i hi => ?_) hu hn
  rw [((sameCore_abandonFrame s).slot i).1]
  exact SlotState.canComplete_of_isActive (State.linkEnding_isSome (List.mem_filter.mp hi).2)

theorem State.linkDown_eq (s : State) (target : LinkState) (o : Ending) : s.linkDown target o =
    { (s.abandonFrame.completeEach (s.linkOrder o) (s.linkResult o)).mapStations Station.linkDown with
      link := target, linkCause := true } := by
  rw [State.linkDown, State.endLinkSlots_abandonFrame]

theorem State.slot_linkDown (s : State) (target : LinkState) (o : Ending) (i : SlotId) : (s.linkDown target o).slot i =
    (s.abandonFrame.completeEach (s.linkOrder o) (s.linkResult o)).slot i := by
  rw [State.linkDown_eq]
  rfl

/-- A station after the stop or loss step, where it is quiet outside ONLINE before (R78). -/
theorem State.station_linkDown {s : State} {st : StationId} (h : (s.station st).quietUnlessOnline) (target : LinkState)
    (o : Ending) : (s.linkDown target o).station st = (s.station st).linkDown := by
  have hsame : s.abandonFrame.station st = s.station st := by
    rw [State.abandonFrame_eq]
    rfl
  have hreleased := released_completeEach (s.linkOrder o) (s.linkResult o) s.abandonFrame st
  rw [hsame] at hreleased
  rw [State.linkDown_eq, ← hreleased.linkDown h]
  exact State.station_mapStations _ _ st

/-- The stop or loss step changes the tables, the frame and the fields of the line, and the link. -/
theorem State.linkDown_only (s : State) (target : LinkState) (o : Ending) : s.linkDown target o =
    { s.abandonFrame with
      slots := (s.linkDown target o).slots, urgent := (s.linkDown target o).urgent
      normal := (s.linkDown target o).normal, freeList := (s.linkDown target o).freeList
      queue := (s.linkDown target o).queue, seqCounter := (s.linkDown target o).seqCounter
      unannounced := (s.linkDown target o).unannounced, stations := (s.linkDown target o).stations
      link := target, linkCause := true } := by
  have honly := onlyTables_completeEach (s.linkOrder o) (s.linkResult o) s.abandonFrame
  rw [State.linkDown_eq, show s.abandonFrame.completeEach _ _ = _ from honly]
  rfl

theorem sameCore_mapStations (s : State) (g : Station → Station) (l : LinkState) :
    SameCore s { s.mapStations g with link := l, linkCause := true } :=
  ⟨fun _ => ⟨rfl, rfl, rfl, rfl, rfl, rfl, rfl, rfl⟩, rfl, rfl, rfl, rfl⟩

/-- How the stop or loss step ends a slot that it completes. -/
theorem State.linkEnding_eq (s : State) (o : Ending) (i : SlotId) (hact : (s.slot i).state.isActive = true) :
    s.linkEnding s.abandonedSlot o i =
      if (s.slot i).state ≠ .queued then some o
      else if s.stationStateOf (s.slot i) = some .withdrawing then some .withdrawn
      else if s.abandonedSlot = some i then (s.slot i).stopRequest.map StopKind.ending else none := by
  unfold State.linkEnding
  split <;> simp_all [SlotState.isActive]

theorem SlotState.mem_of_isActive {x : SlotState} (h : x.isActive = true) (hq : x ≠ .queued) :
    x ∈ [SlotState.opened, .parked, .aborting] := by
  cases x <;> simp_all [SlotState.isActive]

/-- The stations of the statement, by their state (R78). -/
theorem Station.linkDown_cases (r : Station) :
    (r.state = .online → r.linkDown = { r with
      state := .probing, probeAttempts := 3, parkDepth := 0, failures := 0, engaged := none
      parked := [], backoff := none, pollTimer := .stopped }) ∧
    (r.state = .probing → r.linkDown = { r with probeAttempts := 3 }) ∧
    (r.state = .withdrawing → r.linkDown = r.endWithdrawal) ∧
    (r.state ∈ [StationState.absent, .faulty, .disabled] → r.linkDown = r) := by
  refine ⟨fun h => ?_, fun h => ?_, fun h => ?_, fun h => ?_⟩
  · rw [Station.linkDown, h]
    rfl
  · rw [Station.linkDown, h]
    rfl
  · rw [Station.linkDown, h]
  · simp only [List.mem_cons, List.not_mem_nil, or_false] at h
    rcases h with h | h | h <;> rw [Station.linkDown, h]

/-- Settles O23: the walk over the abandoned state, and each station by its state. -/
theorem stopOrLossStep : Obligations.StopOrLossStep := by
  intro s target o hlists hquiet abandoned withdrawing ending
  have hmem : ∀ i ∈ s.walkOrder, (i ∈ s.linkOrder o ↔ ((s.slot i).state ∈ [SlotState.opened, .parked, .aborting] ∨
      ((s.slot i).state = .queued ∧ (withdrawing i ∨ abandoned i)))) ∧
      (i ∈ s.linkOrder o → (s.linkResult o i).outcome = ending i) := fun i hi => by
    have hact := (State.mem_walkOrder_iff hlists i).mp hi
    rw [State.linkOrder, List.mem_filter, State.linkResult, State.linkEnding_eq s o i hact]
    by_cases hq : (s.slot i).state = .queued
    · by_cases hw : withdrawing i
      · simp [hi, hq, ending, hw, if_pos (show s.stationStateOf (s.slot i) = _ from hw)]
      · by_cases ha : s.abandonedSlot = some i
        · obtain ⟨hflag, hframe⟩ := State.abandonedSlot_eq_some.mp ha
          cases hstop : (s.slot i).stopRequest with
          | none => simp [hi, hq, hw, if_neg (show ¬ s.stationStateOf (s.slot i) = _ from hw), ha, abandoned, hstop]
          | some k =>
            refine ⟨?_, fun _ => ?_⟩
            · simp only [hq, ha, if_neg (show ¬ s.stationStateOf (s.slot i) = _ from hw)]
              simp [hi, abandoned, hflag, hstop]
              exact .inr hframe
            · simp only [ending, hq, ha, if_neg (show ¬ s.stationStateOf (s.slot i) = _ from hw), hstop]
              cases k <;> simp [StopKind.ending]
        · have hno : ¬ abandoned i := fun ⟨hflag, _, hframe⟩ => ha (State.abandonedSlot_eq_some.mpr ⟨hflag, hframe⟩)
          simp [hq, hw, if_neg (show ¬ s.stationStateOf (s.slot i) = _ from hw), ha, hno]
    · simp [hi, hq, ending, SlotState.mem_of_isActive hact hq]
  refine ⟨s.linkOrder o, List.filter_sublist, fun i hi => (hmem i hi).1, ?_⟩
  intro u
  have hcompletes := completes_linkOrder hlists o
  have honly := s.linkDown_only target o
  have hab := s.abandonFrame_eq
  have hframe : u.frame = none := by
    rw [show u = _ from honly]
    show s.abandonFrame.frame = none
    rw [hab]
  have hcore : SameCore (s.abandonFrame.completeEach (s.linkOrder o) (s.linkResult o)) u := by
    rw [show u = _ from State.linkDown_eq s target o]
    exact sameCore_mapStations _ _ _
  refine ⟨hcompletes.completesInOrder (sameCore_abandonFrame s) hcore fun i hi =>
      ⟨(hmem i (List.mem_filter.mp hi).1).2 hi, rfl, rfl⟩, fun i hi => ?_, ?_, ?_, hframe, ?_, ?_, ?_, ?_⟩
  · rw [State.slot_linkDown, hcompletes.slot_not_mem i hi, State.slot_abandonFrame]
  · rw [show u = _ from honly]
  · rw [show u = _ from honly]
  · rw [show u = _ from honly]
    show s.abandonFrame.mem = s.mem
    rw [hab]
  · rw [State.lineDE, hframe]
  · intro k
    rw [State.lineTx, hframe]
  · have hgap : u.gapPassed = s.abandonFrame.gapPassed := by rw [show u = _ from honly]
    have hrec : u.receiver = s.abandonFrame.receiver := by rw [show u = _ from honly]
    intro arriving
    rw [hgap, hrec]
    have hline : (s.abandonFrame.gapPassed = true ↔
          s.gapPassed = true ∧ ∀ f ∈ s.frame, f.phase = .awaiting ∨ arriving f) ∧
        (s.frame = none → s.abandonFrame.receiver = s.receiver) ∧
        (∀ f ∈ s.frame, (arriving f → s.abandonFrame.receiver = .firstByte) ∧
          (¬ arriving f → s.abandonFrame.receiver = .waiting)) := by
      cases hf : s.frame with
      | none =>
        rw [State.abandonFrame_of_none hf]
        simp
      | some f =>
        obtain ⟨hgap, hrec⟩ := State.abandonFrame_line hf
        rw [hgap, hrec]
        refine ⟨?_, nofun, fun g hg => ?_⟩
        · simp [arriving]
        · obtain rfl : f = g := by simpa using hg
          exact ⟨fun h => if_pos h, fun h => if_neg h⟩
    obtain ⟨hgap, hnone, hsome⟩ := hline
    refine ⟨hgap, hnone, hsome, fun st => ?_⟩
    obtain ⟨honline, hprobing, hwith, hothers⟩ := (s.station st).linkDown_cases
    rw [show u.station st = _ from State.station_linkDown (hquiet st) target o]
    refine ⟨honline, hprobing, fun h => ?_, hothers⟩
    obtain ⟨he, hp, hb, ht⟩ := hquiet st (by rw [h]; nofun)
    rw [hwith h]
    simp [Station.endWithdrawal, Station.leaveOnline, he, hp, hb, ht]

end Sys2Proof.Machine

/-! The reports that take the link down: every report in STOPPING, and the loss by the silent count (R177, R180, R181). -/

namespace Sys2Proof.Machine

/-! ## What the stop or loss step leaves of the link, whatever state it is taken in -/

theorem State.slot_completeEach_of_not_mem {ids : List SlotId} {i : SlotId} (h : i ∉ ids) (r : SlotId → Result)
    (s : State) : (s.completeEach ids r).slot i = s.slot i := by
  induction ids generalizing s with
  | nil => rfl
  | cons j ids ih =>
    obtain ⟨hne, hi⟩ := not_or.mp (mt List.mem_cons.mpr h)
    rw [State.completeEach_cons, ih hi]
    cases hc : (s.slot j).state.canComplete with
    | false => rw [State.complete_other hc]
    | true => rw [State.slot_complete hc, if_neg hne]

/-- The stop or loss step passes over a COMPLETE slot, but for its in-flight flag. -/
theorem State.slot_linkDown_of_complete {s : State} {i : SlotId} (h : (s.slot i).state = .complete) (target : LinkState)
    (o : Ending) : (s.linkDown target o).slot i =
      if s.frame.bind Frame.slot = some i then { s.slot i with inFlight := false } else s.slot i := by
  have hnot : i ∉ s.linkOrder o := fun hi => by
    have hact := State.linkEnding_isSome (List.mem_filter.mp hi).2
    rw [h] at hact
    cases hact
  rw [State.slot_linkDown, State.slot_completeEach_of_not_mem hnot, State.slot_abandonFrame]

/-- From `s` to `u` the link has gone down to `l`, with the LINK cause, no frame in flight, the silent count `n` and every record
of the queue still there. -/
structure LinkFell (s u : State) (l : LinkState) (n : Nat) : Prop where
  link : u.link = l
  linkCause : u.linkCause = true
  frame : u.frame = none
  silentCount : u.silentCount = n
  queue : s.queue <+: u.queue

theorem linkFell_linkDown (s : State) (l : LinkState) (o : Ending) : LinkFell s (s.linkDown l o) l s.silentCount := by
  have hab := s.abandonFrame_eq
  have honly := s.linkDown_only l o
  have hqueue : (s.linkDown l o).queue = (s.abandonFrame.completeEach (s.linkOrder o) (s.linkResult o)).queue := by
    rw [State.linkDown_eq]
    rfl
  have hfields : (s.linkDown l o).frame = s.abandonFrame.frame ∧
      (s.linkDown l o).silentCount = s.abandonFrame.silentCount := by
    rw [show s.linkDown l o = _ from honly]
    exact ⟨rfl, rfl⟩
  refine ⟨by rw [show s.linkDown l o = _ from honly], by rw [show s.linkDown l o = _ from honly], ?_, ?_, ?_⟩
  · rw [hfields.1, hab]
  · rw [hfields.2, hab]
  · rw [hqueue, show s.queue = s.abandonFrame.queue by rw [hab]]
    exact (reportScope_completeEach _ _ _).queue

theorem LinkFell.announceSince {s u : State} {l : LinkState} {n : Nat} (h : LinkFell s u l n) (t : State) :
    LinkFell s (u.announceSince t) l n := by
  have hann := announced_announceSince u t
  obtain ⟨hl, hc, hf, hn, hq⟩ := h
  rw [show u.announceSince t = _ from hann]
  exact ⟨hl, hc, hf, hn, hq⟩

theorem LinkFell.of_prefix {s t u : State} {l : LinkState} {n : Nat} (h : LinkFell t u l n) (hq : s.queue <+: t.queue) :
    LinkFell s u l n := ⟨h.link, h.linkCause, h.frame, h.silentCount, hq.trans h.queue⟩

/-- The scheduler does nothing while the link is down. -/
theorem State.dispatch_of_linkDown {s : State} (h : s.link = .off ∨ s.link = .suspended) : s.dispatch = s := by
  have hnone : s.choose = none := by rcases h with h | h <;> rw [State.choose, h]
  rw [State.dispatch, hnone]
  split <;> rfl

/-! ## The reports -/

/-- What a report's part of the tables leaves of the link. -/
theorem State.told_line (s : State) (f : Frame) (gap : Bool) (o : FrameOutcome) :
    (s.told f gap o).link = s.link ∧ (s.told f gap o).cfg = s.cfg ∧ (s.told f gap o).frame = none ∧
    (s.told f gap o).silentCount = nextSilentCount s.silentCount f.kind o ∧ s.queue <+: (s.told f gap o).queue := by
  have hscope := reportScope_reportTables (s.counted f gap o) f (s.slotTaking f) o
  have hcounted : (s.counted f gap o).link = s.link ∧ (s.counted f gap o).cfg = s.cfg ∧
      (s.counted f gap o).frame = none ∧ (s.counted f gap o).silentCount = s.silentCount ∧
      (s.counted f gap o).queue = s.queue := by
    unfold State.counted State.endFrame
    split <;> exact ⟨rfl, rfl, rfl, rfl, rfl⟩
  obtain ⟨hlink, hcfg, hframe, hsilent, hqueue⟩ := hcounted
  refine ⟨hscope.link.trans hlink, hscope.cfg.trans hcfg, hscope.frame.trans hframe, ?_, hqueue ▸ hscope.queue⟩
  show nextSilentCount ((s.counted f gap o).reportTables f (s.slotTaking f) o).silentCount f.kind o = _
  rw [hscope.silentCount, hsilent]

/-- Below the link-loss threshold a report in STOPPING takes the link to OFF (R177). -/
theorem State.report_stopping {s : State} {f : Frame} {o : FrameOutcome} (hl : s.link = .stopping)
    (hc : ¬ (countsSilent f.kind o = true ∧ s.cfg.linkLossThreshold ≤ nextSilentCount s.silentCount f.kind o))
    (gap : Bool) : s.report f gap o = ((s.told f gap o).linkDown .off .stopped).announceSince s := by
  obtain ⟨hlink, hcfg, -, hsilent, -⟩ := s.told_line f gap o
  have hlost : ¬ (countsSilent f.kind o = true ∧ (s.told f gap o).cfg.linkLossThreshold ≤ (s.told f gap o).silentCount ∧
      ((s.told f gap o).link = .running ∨ (s.told f gap o).link = .stopping)) := fun ⟨h, hle, _⟩ => by
    rw [hcfg, hsilent] at hle
    exact hc ⟨h, hle⟩
  rw [State.report_eq, State.reportLink, if_neg hlost, if_pos (hlink.trans hl)]
  rfl

/-- At the link-loss threshold a silent timeout takes the link to SUSPENDED (R181). -/
theorem State.report_lost {s : State} {f : Frame} {o : FrameOutcome} (hl : s.link = .running ∨ s.link = .stopping)
    (hc : countsSilent f.kind o = true) (hn : s.cfg.linkLossThreshold ≤ nextSilentCount s.silentCount f.kind o)
    (gap : Bool) : s.report f gap o = ((s.told f gap o).linkDown .suspended .linkLost).announceSince s := by
  obtain ⟨hlink, hcfg, -, hsilent, -⟩ := s.told_line f gap o
  rw [State.report_eq, State.reportLink, hlink, hcfg, hsilent, if_pos ⟨hc, hn, hl⟩]
  rfl

theorem linkFell_told (s : State) (f : Frame) (gap : Bool) (o : FrameOutcome) (l : LinkState) (e : Ending) :
    LinkFell s (((s.told f gap o).linkDown l e).announceSince s) l (nextSilentCount s.silentCount f.kind o) := by
  obtain ⟨-, -, -, hsilent, hqueue⟩ := s.told_line f gap o
  rw [← hsilent]
  exact ((linkFell_linkDown _ l e).of_prefix hqueue).announceSince s

/-- A command that ends a frame in RECEIVING by a reply reports it, with an outcome that is not silent. -/
theorem exec_of_endsByReply {s : State} {f : Frame} {c : Instr} (hc : endsByReply c) (hf : s.frame = some f)
    (hp : f.phase = .receiving) : ∃ o, o ≠ .silent ∧ exec c s = .next (s.report f false o) := by
  have hreply : ∀ r : Reply, (∀ payload, r = .give payload → payload.length ≤ 64) →
      ∃ o, o ≠ .silent ∧ exec r.command s = .next (s.report f false o) := fun r hr => by
    refine ⟨_, ?_, exec_reply hf hp hr⟩
    split <;> nofun
  have htake : ∀ o, s.takeReceived (fun _ => o) = s.report f false o := fun o => by
    simp only [State.takeReceived, hf, hp]
  cases c with
  | present d => exact hreply (.present d) nofun
  | accept => exact hreply .accept nofun
  | refuse v => exact hreply (.refuse v) nofun
  | taken => exact hreply .taken nofun
  | give payload =>
    by_cases hlen : payload.length ≤ Config.segmentBytes
    · exact hreply (.give payload) fun p h => by
        cases h
        exact hlen
    · refine ⟨.garbled, nofun, ?_⟩
      show execGive payload s = _
      rw [execGive, if_neg hlen, htake]
  | result v => exact hreply (.result v) nofun
  | wait => exact hreply .wait nofun
  | park => exact hreply .park nofun
  | nothing => exact hreply .nothing nofun
  | ready t => exact hreply (.ready t) nofun
  | done => exact hreply .done nofun
  | garbledReply => exact ⟨.garbled, nofun, congrArg _ (htake .garbled)⟩
  | violationReply => exact ⟨.violation, nofun, congrArg _ (htake .violation)⟩
  | _ => exact hc.elim

/-- What the tables take of a valid reply other than WAIT to a slot's frame, at the slot. -/
theorem State.slot_told_valid {s : State} {f : Frame} {i : SlotId} {r : Reply} (hf : f.slot = some i)
    (hfl : (s.slot i).inFlight = true) (ht : (s.slot i).Takes f.kind f.index) (hk : f.kind ≠ .sync ∧ f.kind ≠ .poll)
    (hw : r ≠ .wait) (gap : Bool) : (s.told f gap (.valid r)).slot i =
      (((s.counted f gap (.valid r)).clearFailures f.station).slotValid i f r).slot i := by
  have htables : (s.counted f gap (.valid r)).reportTables f (s.slotTaking f) (.valid r) =
      (s.counted f gap (.valid r)).reportValid f (some i) r := by
    rw [State.slotTaking_eq hf hfl ht]
    unfold State.reportTables
    split <;> simp_all
  rw [State.told, htables, State.reportValid]
  simp only [if_neg hw]
  rfl

theorem State.slot_clearFailures (s : State) (st : StationId) (i : SlotId) :
    (s.clearFailures st).slot i = s.slot i := (sameTables_clearFailures s st).slot i

/-- A slot that completes in the report that ends STOPPING keeps its completion. -/
theorem State.slot_report_stopping {s : State} {f : Frame} {i : SlotId} {r : Reply} (hl : s.link = .stopping)
    (hc : ((s.told f false (.valid r)).slot i).state = .complete) :
    (s.report f false (.valid r)).slot i = (s.told f false (.valid r)).slot i := by
  obtain ⟨-, -, hframe, -, -⟩ := s.told_line f false (.valid r)
  rw [State.report_stopping hl (by simp [countsSilent]), (announced_announceSince _ s).slot,
    State.slot_linkDown_of_complete hc, if_neg (by simp [hframe])]

/-- Settles O24: the tables take the report first, and the link follows on what they leave. -/
theorem reportsThatTakeTheLinkDown : Obligations.ReportsThatTakeTheLinkDown := by
  intro s f hf
  have hnone : ∀ {c : FrameKind} {o : FrameOutcome}, o ≠ .silent → ¬ countsSilent c o = true := fun ho => by
    simp [countsSilent, ho]
  refine ⟨fun hl hp c hc => ?_, fun hl hp i v hfs hfl hst hoff => ?_, fun n hl hp hn hk hdown => ?_,
    fun n hl hp hn hk => ?_⟩
  · obtain ⟨o, ho, hexec⟩ := exec_of_endsByReply hc hf hp
    have hfell := linkFell_told s f false o .off .stopped
    rw [← State.report_stopping hl (fun h => hnone ho h.1)] at hfell
    exact ⟨_, hexec, hfell.link, hfell.linkCause, hfell.frame, by rw [hfell.silentCount, nextSilentCount, if_neg ho],
      hfell.queue⟩
  · have ht := Slot.takes_of_offers hoff
    obtain ⟨hsync, hpoll, -⟩ := Slot.offers_kind hoff
    have hbase : ∀ r, ((s.counted f false (.valid r)).clearFailures f.station).slot i =
        { s.slot i with inFlight := false } := fun r => by
      rw [State.slot_clearFailures, State.slot_counted, if_pos hfs]
    have hends : ∀ (r : Reply) (x : Slot), r.command = .refuse v ∨ r.command = .result v →
        s.replyValid f r = true → (s.told f false (.valid r)).slot i = x → x.state = .complete →
        ∃ u, exec r.command s = .next u ∧ u.slot i = x := fun r x hr hvalid hslot hx => by
      have hgive : ∀ payload, r = .give payload → payload.length ≤ 64 := fun p h => by
        rw [h] at hr
        rcases hr with hr | hr <;> cases hr
      refine ⟨_, exec_reply hf hp hgive, ?_⟩
      rw [if_pos hvalid, State.slot_report_stopping hl (hslot ▸ hx), hslot]
    have hcan : (s.slot i).state.canComplete = true := SlotState.canComplete_of_isActive ht.isActive
    refine ⟨fun hk hv => ?_, fun hk => ?_⟩
    · have hvalid : s.replyValid f (.refuse v) = true :=
        State.replyValid_iff.mpr ⟨by rw [hk]; rfl, decide_eq_true hv⟩
      have hslot := State.slot_told_valid (r := .refuse v) hfs hfl ht ⟨hsync, hpoll⟩ nofun false
      simp only [State.slotValid, State.slotRefuse] at hslot
      rw [State.slot_complete (by rw [State.slot_modSlot_self, hbase]; exact hcan), if_pos rfl] at hslot
      obtain ⟨u, hu, hslot⟩ := hends (.refuse v) _ (.inl rfl) hvalid hslot rfl
      refine ⟨u, hu, ?_⟩
      rw [hslot]
      exact ⟨rfl, rfl, rfl⟩
    · have hvalid : s.replyValid f (.result v) = true := State.replyValid_iff.mpr ⟨by rw [hk]; rfl, rfl⟩
      have hslot := State.slot_told_valid (r := .result v) hfs hfl ht ⟨hsync, hpoll⟩ nofun false
      simp only [State.slotValid, State.slotResult] at hslot
      rw [State.slot_complete (by rw [hbase]; exact hcan), if_pos rfl] at hslot
      obtain ⟨u, hu, hslot⟩ := hends (.result v) _ (.inr rfl) hvalid hslot rfl
      refine ⟨u, hu, ?_⟩
      rw [hslot]
      exact ⟨rfl, rfl, rfl⟩
  · have hfails : s.failsBy f .replyTimeout := ⟨hf, .inr ⟨hp, by rw [hn]; nofun, rfl⟩⟩
    have hup : s.link.isUp = true := by
      rcases List.mem_pair.mp hl with h | h <;> rw [h] <;> rfl
    have hcount : nextSilentCount s.silentCount f.kind .silent = s.silentCount + 1 := by
      simp [nextSilentCount, hk]
    have hsilent : countsSilent f.kind .silent = true := by simp [countsSilent, hk]
    rw [exec_of_failsBy hfails hup]
    by_cases hlost : s.cfg.linkLossThreshold ≤ s.silentCount + 1
    · have hfell := linkFell_told s f (s.gapAfter f .replyTimeout) .silent .suspended .linkLost
      rw [← State.report_lost (List.mem_pair.mp hl) hsilent (by rwa [hcount]), hcount] at hfell
      refine ⟨_, congrArg Host.Outcome.next (State.dispatch_of_linkDown (.inr hfell.link)), hfell.linkCause,
        hfell.frame, hfell.silentCount, hfell.queue, ?_⟩
      rw [if_pos hlost]
      exact hfell.link
    · have hstopping : s.link = .stopping := hdown.resolve_right hlost
      have hfell := linkFell_told s f (s.gapAfter f .replyTimeout) .silent .off .stopped
      rw [← State.report_stopping hstopping (by rw [hcount]; exact fun h => hlost h.2), hcount] at hfell
      refine ⟨_, congrArg Host.Outcome.next (State.dispatch_of_linkDown (.inl hfell.link)), hfell.linkCause,
        hfell.frame, hfell.silentCount, hfell.queue, ?_⟩
      rw [if_neg hlost]
      exact hfell.link
  · have hfails : s.failsBy f .replyTimeout := ⟨hf, .inr ⟨hp, by rw [hn]; nofun, rfl⟩⟩
    have hfell := linkFell_told s f (s.gapAfter f .replyTimeout) .silent .off .stopped
    rw [← State.report_stopping hl (by simp [countsSilent, hk])] at hfell
    rw [exec_of_failsBy hfails (by rw [hl]; rfl)]
    refine ⟨_, congrArg Host.Outcome.next (State.dispatch_of_linkDown (.inl hfell.link)), hfell.link, hfell.linkCause,
      hfell.frame, hfell.silentCount.trans ?_⟩
    simp [nextSilentCount, hk]

end Sys2Proof.Machine

/-! The host's register writes, the reads of the data window, the snapshots, the two resets, and what a step does with the
command queue (R6 to R11, R37, R38, R165, R166, R186 to R196). -/

namespace Sys2Proof.Machine

/-! ## The front of the queue -/

/-- Settles O1: the two cases of the queue. -/
theorem stepRunsFrontCommand : Obligations.StepRunsFrontCommand := by
  refine ⟨fun c rest s h => ?_, fun s h => ?_⟩
  · rw [step, h]
  · rw [← State.firstByteReceived_eq, step, h]

/-! ## Register writes -/

/-- Settles O26: by the state of the selected slot, and for a length by its fill cursor. -/
theorem descriptorAndLengthWrites : Obligations.DescriptorAndLengthWrites := by
  intro s data x written
  refine ⟨fun hst => ⟨?_, ?_, fun hc => ?_, fun hc => ?_⟩, fun hst c hc => ?_⟩
  · exact if_pos hst
  · exact if_pos hst
  · exact (if_pos hst).trans (if_pos hc)
  · exact (if_pos hst).trans (if_neg hc)
  · simp only [List.mem_cons, List.not_mem_nil, or_false] at hc
    rcases hc with rfl | rfl | rfl <;> exact if_neg hst

/-- The word of four bytes is their join, the last in the upper bits. -/
theorem wordOfBytes_eq (b0 b1 b2 b3 : Byte) : wordOfBytes b0 b1 b2 b3 = b3 ++ b2 ++ b1 ++ b0 := by
  have hout : ∀ (b : Byte) (k : Nat), 8 ≤ k → b.getLsbD k = false := fun b k hk => BitVec.getLsbD_of_ge b k hk
  refine BitVec.eq_of_getLsbD_eq fun k hk => ?_
  simp only [wordOfBytes, BitVec.getLsbD_or, BitVec.getLsbD_shiftLeft, BitVec.getLsbD_setWidth, BitVec.getLsbD_append]
  by_cases h0 : k < 8
  · simp [h0, show k < 16 by omega, show k < 24 by omega, hk]
  by_cases h1 : k < 16
  · simp [h0, h1, show k - 8 < 8 by omega, show k < 24 by omega, show k - 8 < 32 by omega, hk, hout b0 k (by omega)]
  by_cases h2 : k < 24
  · simp [h0, h1, h2, show ¬ k - 8 < 8 by omega, show k - 16 < 8 by omega, show k - 8 - 8 = k - 16 by omega,
      show k - 16 < 32 by omega, hk, hout b0 k (by omega), hout b1 (k - 8) (by omega)]
  · simp [h0, h1, h2, show ¬ k - 8 < 8 by omega, show ¬ k - 16 < 8 by omega, show k - 8 - 8 = k - 16 by omega,
      show k - 16 - 8 = k - 24 by omega, show k - 24 < 32 by omega, hk, hout b0 k (by omega), hout b1 (k - 8) (by omega),
      hout b2 (k - 16) (by omega)]

/-- Settles O28: by whether the selected slot is a COMPLETE or SETTLED FETCH that has a byte at the read cursor. -/
theorem dataWindowRead : Obligations.DataWindowRead := by
  intro s x byteAt
  refine ⟨fun hst hk hc => ?_, fun h => ?_⟩
  · have hread : (s.selectedSlot.drainable && decide (s.selectedSlot.readCursor < s.selectedSlot.bytesMoved)) = true := by
      have hdrain : s.selectedSlot.drainable = true := by
        rcases List.mem_pair.mp hst with h | h <;>
          simp [Slot.drainable, show s.selectedSlot.state = _ from h, show s.selectedSlot.desc.kind = _ from hk]
      rw [hdrain, Bool.true_and]
      exact decide_eq_true hc
    have hword : s.dwinWord = byteAt 3 ++ byteAt 2 ++ byteAt 1 ++ byteAt 0 :=
      (if_pos hread).trans (wordOfBytes_eq _ _ _ _)
    refine (if_pos hread).trans ?_
    rw [hword]
    rfl
  · have hread : ¬ (s.selectedSlot.drainable && decide (s.selectedSlot.readCursor < s.selectedSlot.bytesMoved)) = true := by
      intro hread
      simp only [Slot.drainable, Bool.and_eq_true, Bool.or_eq_true, decide_eq_true_eq] at hread
      obtain ⟨⟨hst, hk⟩, hc⟩ := hread
      rcases h with h | h | h
      · exact h (List.mem_pair.mpr hst)
      · exact h hk
      · exact absurd hc (not_lt.mpr h)
    have hword : s.dwinWord = 0 := if_neg hread
    refine (if_neg hread).trans ?_
    rw [hword]

/-! ## Configuration -/

theorem clampTo_of_le {lo hi n : Nat} (hn : n ≤ hi) : clampTo lo hi n = if n < lo then lo else n := by
  unfold clampTo
  split <;> omega

theorem clampTo_eq {lo hi : Nat} (h : lo ≤ hi) (n : Nat) :
    clampTo lo hi n = if (if hi < n then hi else n) < lo then lo else if hi < n then hi else n := by
  unfold clampTo
  split <;> split <;> omega

theorem bitsOf_eq (w : Word) (lo width : Nat) : bitsOf w lo width = (w.toNat / 2 ^ lo) % 2 ^ width := by
  simp [bitsOf, BitVec.extractLsb'_toNat, Nat.shiftRight_eq_div_pow]

/-- Settles O30: each field at its nearest end, then the new threshold against the unannounced count. -/
theorem configurationWrites : Obligations.ConfigurationWrites := by
  intro s data atLeast atMost field
  have hlow : ∀ lo width n, n = 2 ^ width - 1 → bitsOf data lo width ≤ n := fun lo width n hn => by
    rw [bitsOf_eq, hn]
    exact Nat.le_sub_one_of_lt (Nat.mod_lt _ (Nat.two_pow_pos width))
  refine ⟨?_, ?_⟩
  · show Host.Outcome.next { s with cfg := s.cfg.writeCfg0 data } = _
    rw [HostConfig.writeCfg0, clampTo_of_le (hlow 8 8 255 rfl), clampTo_of_le (hlow 24 4 15 rfl), clampTo_eq (by decide)]
    simp only [bitsOf_eq]
    rfl
  · intro cfg
    have hcfg : s.cfg.writeCfg1 data = cfg := by
      rw [HostConfig.writeCfg1, clampTo_of_le (hlow 0 8 255 rfl), clampTo_of_le (hlow 8 8 255 rfl),
        clampTo_eq (by decide)]
      simp only [bitsOf_eq]
      rfl
    have hexec : exec (.cfg1Write data) s = .next ({ s with cfg := cfg } : State).thresholdWritten := by
      rw [← hcfg]
      rfl
    refine ⟨fun h1 hle => ?_, fun h => ?_⟩
    · rw [hexec, State.thresholdWritten, if_pos ⟨h1, hle⟩]
      rfl
    · have hbelow : ¬ (1 ≤ s.unannounced ∧ cfg.completionThreshold ≤ s.unannounced) := fun ⟨h1, hle⟩ =>
        h.elim (fun h => absurd h1 (by omega)) fun h => absurd hle (not_le.mpr h)
      rw [hexec, State.thresholdWritten, if_neg hbelow]

/-! ## Writes that change nothing, snapshots -/

/-- Settles O25: the codes and the words that no command takes. -/
theorem unknownCommandsAndIgnoredWrites : Obligations.UnknownCommandsAndIgnoredWrites := by
  intro s
  refine ⟨fun code h => ?_, fun word data h => ?_⟩
  · exact if_pos (by simpa [Instr.wellFormed] using h)
  · have hword : word ∉ writableWords := fun hw => by
      simp only [writableWords, List.mem_cons, List.not_mem_nil, or_false] at hw
      rcases hw with rfl | rfl | rfl | rfl | rfl | rfl | rfl | rfl | rfl <;> simp at h
    exact if_pos (by simpa [Instr.wellFormed] using hword)

/-- Settles O31: the copy, and the six words that show it. -/
theorem snapshotCommands : Obligations.SnapshotCommands := by
  intro s c
  refine ⟨_, _, rfl, rfl, rfl, rfl, fun v hv => ?_⟩
  rcases List.mem_pair.mp hv with rfl | rfl <;> exact ⟨rfl, rfl, rfl, rfl, rfl, rfl⟩

/-! ## Resets -/

theorem State.station_reset (st : StationId) : State.reset.station st = Station.initial := by
  simp [State.station, State.reset]

/-- With every station as after reset the interrupt line is high while the other two causes are clear. -/
theorem State.intN_of_reset_stations {u : State} (hu : u.stations = State.reset.stations)
    (hc : u.completionCause = false) (hl : u.linkCause = false) : u.stationCause = false ∧ u.intN = true := by
  have hcause : u.stationCause = false := by
    rw [Bool.eq_false_iff, Ne, State.stationCause_iff]
    rintro ⟨st, hst⟩
    have hinitial := State.station_reset st
    rw [State.station, ← hu] at hinitial
    rw [State.station, hinitial] at hst
    cases hst
  refine ⟨hcause, ?_⟩
  rw [← Bool.not_eq_false, State.intN_eq_false_iff, hcause, hc, hl]
  simp

/-- Settles O8: both resets field by field. -/
theorem resetCommands : Obligations.ResetCommands := by
  intro s
  have hslot : ∀ i, s.powerOn.slot i = Slot.empty := fun i => State.slot_reset i
  have hstation : ∀ st, s.powerOn.station st = Station.initial := fun st => State.station_reset st
  have hfree : s.powerOn.freeList.map (fun b => b.val) = List.range 128 := by
    show (List.finRange 128).map (fun b => b.val) = _
    exact List.map_coe_finRange_eq_range
  obtain ⟨hcause, hpin⟩ := State.intN_of_reset_stations (u := s.powerOn) rfl rfl rfl
  refine ⟨s.powerOn, rfl, hslot, hstation, rfl, rfl, hfree, fun _ => rfl, rfl, rfl, rfl, rfl, rfl, rfl, rfl, fun _ => rfl,
    rfl, rfl, rfl, rfl, rfl, rfl, rfl, hcause, rfl, rfl, hpin, rfl, rfl, rfl, rfl, rfl, rfl, rfl,
    s.commandReset, rfl, ?_, rfl, fun _ => rfl, rfl⟩
  exact (State.intN_of_reset_stations (u := s.commandReset) rfl rfl rfl).2

/-- Settles O9: with every slot FREE, every station DISABLED and no frame in flight nothing is related to anything. -/
theorem resetMeetsInvariants : Obligations.ResetMeetsInvariants := by
  have hslot := State.slot_reset
  have hstation := State.station_reset
  have hchains : State.reset.chainBlocks = [] := by simp [State.chainBlocks, hslot, Slot.empty]
  refine ⟨⟨?_, ?_⟩, fun i => by simp [hslot, Slot.empty]⟩
  · refine ⟨reset_mem_wf, ?_, fun i => ?_, fun i => ?_, Nat.le_refl 0, rfl, rfl, fun i => ?_, fun i => ?_⟩
    · rw [State.poolConserved, hchains, List.append_nil]
      exact .refl _
    · rw [hslot]
      exact ⟨rfl, rfl⟩
    · rw [hslot]
      rfl
    · rw [hslot]
      exact Slot.progressFits_empty
    · rw [hslot]
      exact Slot.chainFits_empty
  · refine ⟨fun st => ?_, fun _ => ⟨rfl, fun st => ?_, fun i => ?_⟩, ⟨fun st => ⟨?_, ?_⟩, fun i => ?_⟩, fun st => ?_, nofun,
      nofun⟩
    · rw [hstation]
      exact fun _ => ⟨rfl, rfl, rfl, rfl⟩
    · rw [hstation]
      exact ⟨nofun, nofun⟩
    · rw [hslot]
      exact ⟨nofun, nofun⟩
    · rw [State.parkedFits, hstation]
      exact ⟨.nil, Nat.le_refl 0, nofun⟩
    · rw [State.engagedFits, hstation]
      nofun
    · rw [State.openEngaged, State.parkedListed, State.readyListed, State.activeServed, State.flagFits, hslot]
      exact ⟨nofun, nofun, nofun, nofun, nofun⟩
    · rw [State.pollFits, State.pollCondition, hstation]
      exact ⟨by simp [Station.initial, PollTimer.isRunning], fun _ => rfl, nofun, nofun⟩

end Sys2Proof.Machine

/-! Every command is taken and leaves the commands that wait (assumption logs 4, 5); the host writes that spell commands (R187 to
R189); bytes stored on a chain (R29, R36). -/

namespace Sys2Proof.Machine

/-! ## The commands that wait -/

theorem ReportScope.pending {s t : State} (h : ReportScope s t) : t.pending = s.pending := by
  rw [h.rest]

theorem State.pending_dispatch (s : State) : s.dispatch.pending = s.pending := s.dispatch_frame.pending

theorem State.pending_announceSince (s t : State) : (s.announceSince t).pending = s.pending := by
  have h := announced_announceSince s t
  rw [show s.announceSince t = _ from h]

theorem State.pending_enterRunningIfProbed (s : State) : s.enterRunningIfProbed.pending = s.pending := by
  rw [show s.enterRunningIfProbed = _ from settled_enterRunningIfProbed s]

theorem State.pending_linkDown (s : State) (target : LinkState) (o : Ending) :
    (s.linkDown target o).pending = s.pending := by
  have h := s.linkDown_only target o
  rw [show s.linkDown target o = _ from h]
  show s.abandonFrame.pending = s.pending
  rw [s.abandonFrame_eq]

theorem State.pending_reportLink (s : State) (kind : FrameKind) (o : FrameOutcome) :
    (s.reportLink kind o).pending = s.pending := by
  unfold State.reportLink
  split
  · exact s.pending_linkDown _ _
  · split
    · exact s.pending_linkDown _ _
    · split
      · exact s.pending_enterRunningIfProbed
      · rfl

theorem State.pending_report (s : State) (f : Frame) (gap : Bool) (o : FrameOutcome) :
    (s.report f gap o).pending = s.pending := by
  have hcounted : (s.counted f gap o).pending = s.pending := by
    unfold State.counted State.endFrame
    split <;> rfl
  rw [State.report_eq, State.pending_announceSince, State.pending_reportLink]
  exact (reportScope_reportTables _ f _ o).pending.trans hcounted

theorem State.pending_takeReceived (s : State) (o : Frame → FrameOutcome) :
    (s.takeReceived o).pending = s.pending := by
  unfold State.takeReceived
  split
  · rfl
  · split
    · exact s.pending_report _ _ _
    · rfl
    · rfl

theorem State.pending_firstByteReceived (s : State) : s.firstByteReceived.pending = s.pending := by
  rw [State.firstByteReceived_eq]
  split <;> rfl

theorem State.pending_startByte (s : State) : s.startByte.pending = s.pending := by
  rw [State.startByte_eq]
  split
  · rfl
  · exact s.pending_firstByteReceived

theorem reportScope_takeStop (s : State) (i : SlotId) (k : StopKind) : ReportScope s (s.takeStop i k) := by
  unfold State.takeStop
  split
  · exact reportScope_modSlot s i _
  · unfold State.stopAtOnce
    split
    · exact reportScope_complete s i _
    · exact reportScope_enterAborting s i _
    · exact reportScope_enterAborting s i _
    · exact reportScope_enterAborting s i _
    all_goals exact .refl s

theorem reportScope_startWithdrawal (s : State) (st : StationId) : ReportScope s (s.startWithdrawal st) := by
  have hengaged : ∀ t : State, ReportScope t (t.withdrawEngaged st) := fun t => by
    unfold State.withdrawEngaged
    refine ReportScope.trans ?_ (reportScope_modStation _ st _)
    split
    · exact reportScope_complete t _ _
    · exact .refl t
  have hparked : ∀ t : State, ReportScope t (t.withdrawParked st) := fun t =>
    (reportScope_foldl _ (fun u i => reportScope_modSlot u i _) _ t).trans (reportScope_modStation _ st _)
  have hdetach : ∀ t : State, ReportScope t (t.detachFrame st) := fun t => by
    unfold State.detachFrame
    split
    · split
      · split
        · exact reportScope_modSlot t _ _
        · exact .refl t
      · exact .refl t
    · exact .refl t
  exact (reportScope_modStation s st _).trans ((hengaged _).trans ((hparked _).trans (hdetach _)))

theorem reportScope_disableAtOnce (s : State) (st : StationId) : ReportScope s (s.disableAtOnce st) :=
  (reportScope_modStation s st _).trans (reportScope_completeAll _ _ _)

theorem State.pending_takeBlocks (s : State) (i : SlotId) (n : Nat) : (s.takeBlocks i n).pending = s.pending := by
  induction n generalizing s with
  | zero => rfl
  | succ n ih =>
    rw [State.takeBlocks, ih, State.takeBlock]
    split <;> rfl

theorem State.pending_enqueueSlot (s : State) (i : SlotId) : (s.enqueueSlot i).pending = s.pending := by
  rw [State.enqueueSlot, State.pending_takeBlocks, State.joinList_eq]
  rfl

theorem State.pending_storeFill (s : State) (i : SlotId) (data : Word) : (s.storeFill i data).pending = s.pending := by
  rw [State.storeFill]
  show (if _ then _ else _ : State).pending = _
  split
  · exact s.pending_takeBlocks i 1
  · rfl

theorem State.pending_withSlot {s : State} {op : Byte} {rule : SlotId → State} (h : ∀ i, (rule i).pending = s.pending) :
    (s.withSlot op rule).pending = s.pending := by
  unfold State.withSlot
  split
  · exact h _
  · rfl

theorem State.pending_withStation {s : State} {op : Byte} {rule : StationId → State}
    (h : ∀ st, (rule st).pending = s.pending) : (s.withStation op rule).pending = s.pending := by
  unfold State.withStation
  split
  · exact h _
  · rfl

/-! ## Every command is taken -/

/-- A command is taken: it gives a next state that leaves the waiting commands as they are. -/
def State.takenAs (s : State) (o : Host.Outcome State Fault Refusal) : Prop := ∃ t, o = .next t ∧ t.pending = s.pending

theorem State.takenAs_next {s t : State} (h : t.pending = s.pending) : s.takenAs (.next t) := ⟨t, rfl, h⟩

theorem State.takenAs_ite {s : State} {p : Prop} [Decidable p] {a b : Host.Outcome State Fault Refusal}
    (ha : p → s.takenAs a) (hb : ¬ p → s.takenAs b) : s.takenAs (if p then a else b) := by
  split
  · exact ha ‹p›
  · exact hb ‹¬ p›

theorem State.pending_ite {s a b : State} {p : Prop} [Decidable p] (ha : a.pending = s.pending)
    (hb : b.pending = s.pending) : (if p then a else b).pending = s.pending := by
  split
  · exact ha
  · exact hb

/-! ### Slot and station commands -/

theorem State.takenAs_execClaim (s : State) : s.takenAs (execClaim s) := by
  unfold execClaim
  split <;> exact State.takenAs_next rfl

theorem State.pending_postToStation (s : State) (i : SlotId) : (s.postToStation i).pending = s.pending := by
  have honce : ∀ o, ((((s.modSlot i fun x => x.startProgress).complete i { outcome := o }).announceSince s).answer
      .done).pending = s.pending := fun o =>
    (State.pending_announceSince _ s).trans (reportScope_complete _ i _).pending
  have hqueued : (((s.enqueueSlot i).answer .done).dispatch).pending = s.pending :=
    (State.pending_dispatch _).trans (s.pending_enqueueSlot i)
  unfold State.postToStation
  dsimp only
  split
  case h_2 | h_3 => exact honce _
  case h_4 | h_5 | h_6 => exact hqueued
  all_goals rfl

theorem State.takenAs_execPost (s : State) (op : Byte) : s.takenAs (execPost op s) := by
  refine State.takenAs_next (State.pending_withSlot fun i => State.pending_ite ?_ rfl)
  split
  · rfl
  · exact s.pending_postToStation i

theorem State.takenAs_execCancel (s : State) (op : Byte) : s.takenAs (execCancel op s) := by
  refine State.takenAs_next (State.pending_withSlot fun i => State.pending_ite ?_ rfl)
  exact (State.pending_dispatch _).trans ((State.pending_announceSince _ s).trans (reportScope_takeStop s i _).pending)

theorem State.takenAs_execPop (s : State) : s.takenAs (execPop s) := by
  unfold execPop
  split <;> exact State.takenAs_next rfl

theorem State.takenAs_execEnableStation (s : State) (op : Byte) : s.takenAs (execEnableStation op s) := by
  refine State.takenAs_next (State.pending_withStation fun st => ?_)
  have henabled : (((s.modStation st fun r => r.enable).answer .done).dispatch).pending = s.pending :=
    State.pending_dispatch _
  dsimp only
  split
  case h_1 | h_2 | h_3 => exact henabled
  all_goals rfl

theorem State.takenAs_execDisableStation (s : State) (op : Byte) : s.takenAs (execDisableStation op s) := by
  refine State.takenAs_next (State.pending_withStation fun st => ?_)
  have hanswer : ∀ u : State, u.pending = s.pending → ((u.answer .done).dispatch).pending = s.pending := fun u hu =>
    (State.pending_dispatch _).trans hu
  have honce : ((s.disableAtOnce st).announceSince s).pending = s.pending := by
    rw [State.pending_announceSince, (reportScope_disableAtOnce s st).pending]
  have hstart : ((s.startWithdrawal st).announceSince s).pending = s.pending := by
    rw [State.pending_announceSince, (reportScope_startWithdrawal s st).pending]
  dsimp only
  split
  case h_1 => exact hanswer _ ((State.pending_enterRunningIfProbed _).trans honce)
  case h_2 | h_3 => exact hanswer _ honce
  case h_4 => exact hanswer _ hstart
  all_goals rfl

/-! ### The link -/

theorem State.pending_enterStarting (s : State) : s.enterStarting.pending = s.pending :=
  State.pending_enterRunningIfProbed _

theorem State.takenAs_execLinkStop (s : State) : s.takenAs (execLinkStop s) := by
  have hstop : s.stopLink.pending = s.pending := by
    unfold State.stopLink
    split
    · exact (State.pending_announceSince _ s).trans (s.pending_linkDown _ _)
    · rfl
  unfold execLinkStop
  split
  case h_1 | h_2 => exact State.takenAs_next hstop
  case h_3 => exact State.takenAs_next ((State.pending_announceSince _ s).trans (s.pending_linkDown _ _))
  all_goals exact State.takenAs_next rfl

theorem State.takenAs_execLineFaultAsserted (s : State) : s.takenAs (execLineFaultAsserted s) :=
  State.takenAs_ite (fun _ => State.takenAs_next
    ((State.pending_announceSince _ s).trans (State.pending_linkDown { s with lineFault := true } _ _)))
    fun _ => State.takenAs_next rfl

/-! ### The line and the timers -/

theorem State.takenAs_execFrameSent (s : State) : s.takenAs (execFrameSent s) := by
  unfold execFrameSent
  split
  · exact State.takenAs_ite (fun _ => State.takenAs_next rfl) fun _ => State.takenAs_next rfl
  · exact State.takenAs_next rfl

theorem State.takenAs_execReplyBegins (s : State) : s.takenAs (execReplyBegins s) := by
  unfold execReplyBegins
  split
  · exact State.takenAs_next s.pending_startByte
  · split
    · exact State.takenAs_next rfl
    · exact State.takenAs_next rfl
    · exact State.takenAs_next s.pending_startByte

theorem State.takenAs_execReplyTimeout (s : State) : s.takenAs (execReplyTimeout s) := by
  unfold execReplyTimeout
  split
  · split
    · exact State.takenAs_next ((State.pending_dispatch _).trans (s.pending_report _ _ _))
    · exact State.takenAs_next rfl
  · exact State.takenAs_next rfl

theorem State.takenAs_execLateReply (s : State) : s.takenAs (execLateReply s) := by
  unfold execLateReply
  split
  · exact State.takenAs_next rfl
  · exact State.takenAs_ite (fun _ => State.takenAs_next rfl) fun _ => State.takenAs_next rfl

theorem State.takenAs_execHoldoffExpiry (s : State) : s.takenAs (execHoldoffExpiry s) := by
  unfold execHoldoffExpiry
  split
  · exact State.takenAs_ite (fun _ => State.takenAs_next rfl) fun _ => State.takenAs_next rfl
  · exact State.takenAs_next rfl

theorem State.takenAs_execLifetimeExpiry (s : State) (i : SlotId) : s.takenAs (execLifetimeExpiry i s) := by
  unfold execLifetimeExpiry
  split
  · refine State.takenAs_ite (fun _ => State.takenAs_next ?_) fun _ => State.takenAs_next rfl
    exact (State.pending_dispatch _).trans ((State.pending_announceSince _ s).trans (reportScope_takeStop _ i _).pending)
  · exact State.takenAs_next rfl

/-- A station address 1 to 8 names a record, and no other does. -/
theorem stationOfAddress_of_isStationAddress {a : BitVec 4} (h : isStationAddress a = true) :
    ∃ st, stationOfAddress a = some st := by
  simp only [isStationAddress, Bool.and_eq_true, decide_eq_true_eq] at h
  exact ⟨⟨a.toNat - 1, by omega⟩, stationOfAddress_eq (by show a.toNat = a.toNat - 1 + 1; omega)⟩

theorem State.takenAs_execBackoffExpiry {s : State} {a : BitVec 4} (h : isStationAddress a = true) :
    s.takenAs (execBackoffExpiry a s) := by
  obtain ⟨st, hst⟩ := stationOfAddress_of_isStationAddress h
  rw [execBackoffExpiry, hst]
  exact State.takenAs_ite (fun _ => State.takenAs_next (State.pending_dispatch _)) fun _ => State.takenAs_next rfl

theorem State.takenAs_execPollTimerExpiry {s : State} {a : BitVec 4} (h : isStationAddress a = true) :
    s.takenAs (execPollTimerExpiry a s) := by
  obtain ⟨st, hst⟩ := stationOfAddress_of_isStationAddress h
  rw [execPollTimerExpiry, hst]
  exact State.takenAs_ite (fun _ => State.takenAs_next (State.pending_dispatch _)) fun _ => State.takenAs_next rfl

/-! ### The whole table -/

theorem State.takenAs_takeReceived (s : State) (o : Frame → FrameOutcome) : s.takenAs (.next (s.takeReceived o)) :=
  State.takenAs_next (s.pending_takeReceived o)

/-- Every command of the spec is taken. -/
theorem State.takenAs_exec (s : State) {c : Instr} (h : c.wellFormed = true) : s.takenAs (exec c s) := by
  have hfree : ∀ (st : SlotState) (op : Byte), (s.withSlot op fun i =>
      if (s.slot i).state = st then (s.freeSlot i).answer .done else s.answer .wrongState).pending = s.pending :=
    fun _ _ => State.pending_withSlot fun _ => State.pending_ite rfl rfl
  cases c with
  | powerOnReset | softReset | snapshot | snapshotClear | causeWrite | maskWrite | cfg0Write | lineFaultNegated =>
    exact State.takenAs_next rfl
  | claim => exact s.takenAs_execClaim
  | select op => exact State.takenAs_next (State.pending_withSlot fun _ => rfl)
  | post op => exact s.takenAs_execPost op
  | drop op => exact State.takenAs_next (hfree .claimed op)
  | release op => exact State.takenAs_next (hfree .settled op)
  | cancel op => exact s.takenAs_execCancel op
  | pop => exact s.takenAs_execPop
  | enableStation op => exact s.takenAs_execEnableStation op
  | disableStation op => exact s.takenAs_execDisableStation op
  | linkStart | linkResume =>
    exact State.takenAs_ite
      (fun _ => State.takenAs_next ((State.pending_dispatch _).trans s.pending_enterStarting))
      fun _ => State.takenAs_next rfl
  | linkStop => exact s.takenAs_execLinkStop
  | unknownCommand code => exact State.takenAs_ite (fun _ => State.takenAs_next rfl) fun hn => absurd h hn
  | ignoredWrite word data => exact State.takenAs_ite (fun _ => State.takenAs_next rfl) fun hn => absurd h hn
  | descriptorWrite reg data =>
    exact State.takenAs_ite (fun _ => State.takenAs_next rfl) fun _ => State.takenAs_next rfl
  | lengthWrite data =>
    exact State.takenAs_ite
      (fun _ => State.takenAs_ite (fun _ => State.takenAs_next rfl) fun _ => State.takenAs_next rfl)
      fun _ => State.takenAs_next rfl
  | dataWindowWrite data =>
    exact State.takenAs_ite
      (fun _ => State.takenAs_ite (fun _ => State.takenAs_next rfl) fun _ =>
        State.takenAs_next (s.pending_storeFill _ data))
      fun _ => State.takenAs_next rfl
  | dataWindowRead => exact State.takenAs_ite (fun _ => State.takenAs_next rfl) fun _ => State.takenAs_next rfl
  | cfg1Write data =>
    refine State.takenAs_next ?_
    unfold State.thresholdWritten
    split <;> rfl
  | lineFaultAsserted => exact s.takenAs_execLineFaultAsserted
  | interFrameGapEnd =>
    exact State.takenAs_ite (fun _ => State.takenAs_next (State.pending_dispatch _)) fun _ => State.takenAs_next rfl
  | frameSent => exact s.takenAs_execFrameSent
  | replyBegins => exact s.takenAs_execReplyBegins
  | replyTimeout => exact s.takenAs_execReplyTimeout
  | lateReply => exact s.takenAs_execLateReply
  | give payload =>
    exact State.takenAs_ite (fun _ => s.takenAs_takeReceived _) fun _ => s.takenAs_takeReceived _
  | garbledReply | violationReply | present | accept | refuse | taken | result | wait | park | nothing | ready | done =>
    exact s.takenAs_takeReceived _
  | holdoffExpiry => exact s.takenAs_execHoldoffExpiry
  | backoffExpiry a => exact State.takenAs_execBackoffExpiry h
  | pollTimerExpiry a => exact State.takenAs_execPollTimerExpiry h
  | lifetimeExpiry i => exact s.takenAs_execLifetimeExpiry i

/-- Settles O2: the table command by command; the terms that are no command by their own checks. -/
theorem everyCommandIsTaken : Obligations.EveryCommandIsTaken := by
  refine ⟨fun c s h => s.takenAs_exec h, fun s => ⟨fun code h => ?_, fun w d h => ?_, fun a h => ?_⟩⟩
  · exact if_neg (by simpa [Instr.wellFormed] using h)
  · exact if_neg (by simpa [Instr.wellFormed] using h)
  · have hnone := stationOfAddress_none h
    refine ⟨?_, ?_⟩
    · show execBackoffExpiry a s = _
      rw [execBackoffExpiry, hnone]
    · show execPollTimerExpiry a s = _
      rw [execPollTimerExpiry, hnone]

end Sys2Proof.Machine

/-! The host writes that spell commands (R187 to R189), and bytes stored on a chain (R29, R36). -/

namespace Sys2Proof.Machine

/-! ## A chain -/

theorem chainBytes_length (m : Memory) (chain : List BlockId) (off n : Nat) : (chainBytes m chain off n).length = n := by
  induction n generalizing off with
  | zero => rfl
  | succ n ih => rw [chainBytes, List.length_cons, ih]

theorem chainBytes_getElem (m : Memory) (chain : List BlockId) {off n k : Nat} (hk : k < (chainBytes m chain off n).length) :
    (chainBytes m chain off n)[k] = chainByte m chain (off + k) := by
  induction n generalizing off k with
  | zero => exact absurd hk (Nat.not_lt_zero k)
  | succ n ih =>
    cases k with
    | zero => rfl
    | succ k =>
      have hlater := ih (off := off + 1) (k := k) (by simpa [chainBytes] using hk)
      simp only [chainBytes, List.getElem_cons_succ, hlater]
      rw [Nat.add_assoc, Nat.add_comm 1 k]

/-- Settles O40: the bytes stored, the offsets outside them, and the addresses outside them. -/
theorem chainStoreReadsBack : Obligations.ChainStoreReadsBack := by
  intro m chain off bytes hm hn hfit u
  refine ⟨wf_chainPutAll hm chain off bytes, ?_, fun p hp => chainByte_chainPutAll_of_outside hm hn hfit hp,
    fun a ha => read_chainPutAll_of_ne hm ha⟩
  refine List.ext_getElem (chainBytes_length u chain off _) fun k hk hk' => ?_
  rw [chainBytes_getElem u chain hk]
  exact chainByte_chainPutAll_of_stored hm hn hfit hk'

/-! ## Host writes -/

theorem code_commandWord (code operand : Byte) : (commandWord code operand).extractLsb' 0 8 = code := by
  refine BitVec.eq_of_getLsbD_eq fun k hk => ?_
  simp [commandWord, hk, show k < 32 by omega]

theorem operand_commandWord (code operand : Byte) : (commandWord code operand).extractLsb' 8 8 = operand := by
  refine BitVec.eq_of_getLsbD_eq fun k hk => ?_
  simp [commandWord, hk, show 8 + k < 32 by omega]

/-- A CMD write is decoded by its code and its operand alone. -/
theorem decodeCommand_congr {v w : Word} (hc : v.extractLsb' 0 8 = w.extractLsb' 0 8)
    (ho : v.extractLsb' 8 8 = w.extractLsb' 8 8) : decodeCommand v = decodeCommand w := by
  simp only [decodeCommand, hc, ho]

/-- The codes that take an operand. -/
theorem decodeCommand_of_noOperand {v w : Word} (hc : v.extractLsb' 0 8 = w.extractLsb' 0 8)
    (h : v.extractLsb' 0 8 ∉ [(0x02 : Byte), 0x03, 0x04, 0x05, 0x07, 0x10, 0x11]) : decodeCommand v = decodeCommand w := by
  have hn : ∀ k : Byte, k ∈ [(0x02 : Byte), 0x03, 0x04, 0x05, 0x07, 0x10, 0x11] → (w.extractLsb' 0 8).toNat ≠ k.toNat :=
    fun k hk he => h (by rw [hc, BitVec.eq_of_toNat_eq he]; exact hk)
  simp only [decodeCommand, hc]
  split <;> simp_all

/-- A code outside the table is an unknown command. -/
theorem decodeCommand_unknown {w : Word} (h : w.extractLsb' 0 8 ∉ commandCodes) :
    decodeCommand w = .unknownCommand (w.extractLsb' 0 8) := by
  have hn : ∀ k ∈ commandCodes, (w.extractLsb' 0 8).toNat ≠ k.toNat :=
    fun k hk he => h (by rw [BitVec.eq_of_toNat_eq he]; exact hk)
  simp only [decodeCommand]
  split <;> simp_all [commandCodes]

theorem decodeCommand_wellFormed (w : Word) : (decodeCommand w).wellFormed = true := by
  by_cases h : w.extractLsb' 0 8 ∈ commandCodes
  · generalize hcode : w.extractLsb' 0 8 = code at h
    simp only [commandCodes, List.mem_cons, List.not_mem_nil, or_false] at h
    rcases h with rfl | rfl | rfl | rfl | rfl | rfl | rfl | rfl | rfl | rfl | rfl | rfl | rfl | rfl | rfl <;>
      simp only [decodeCommand, hcode] <;> rfl
  · rw [decodeCommand_unknown h]
    simpa [Instr.wellFormed] using h

/-- A word that takes no write. -/
theorem decodeHostWrite_ignored {word : BitVec 5} (h : word ∉ writableWords) (data : Word) :
    decodeHostWrite word data = .ignoredWrite word data := by
  have hn : ∀ k ∈ writableWords, word.toNat ≠ k.toNat :=
    fun k hk he => h (by rw [BitVec.eq_of_toNat_eq he]; exact hk)
  unfold decodeHostWrite
  split <;> simp_all [writableWords]

theorem decodeHostWrite_wellFormed (word : BitVec 5) (data : Word) : (decodeHostWrite word data).wellFormed = true := by
  by_cases h : word ∈ writableWords
  · simp only [writableWords, List.mem_cons, List.not_mem_nil, or_false] at h
    rcases h with rfl | rfl | rfl | rfl | rfl | rfl | rfl | rfl | rfl
    · exact decodeCommand_wellFormed data
    all_goals rfl
  · rw [decodeHostWrite_ignored h]
    simpa [Instr.wellFormed] using h

/-- A command that a host write spells is decoded from it. -/
theorem decodeHostWrite_encodeHostWrite {c : Instr} {word : BitVec 5} {data : Word} (hc : c.wellFormed = true)
    (h : encodeHostWrite c = some (word, data)) : decodeHostWrite word data = c := by
  have hcmd : ∀ w, decodeHostWrite 0 w = decodeCommand w := fun _ => rfl
  cases c with
  | unknownCommand code =>
    obtain ⟨rfl, rfl⟩ := Prod.mk.inj (Option.some.inj h)
    rw [hcmd, decodeCommand_unknown (by rw [code_commandWord]; simpa [Instr.wellFormed] using hc), code_commandWord]
  | ignoredWrite w d =>
    obtain ⟨rfl, rfl⟩ := Prod.mk.inj (Option.some.inj h)
    exact decodeHostWrite_ignored (by simpa [Instr.wellFormed] using hc) d
  | descriptorWrite reg d =>
    cases reg <;> obtain ⟨rfl, rfl⟩ := Prod.mk.inj (Option.some.inj h) <;> rfl
  | lengthWrite d | dataWindowWrite d | causeWrite d | maskWrite d | cfg0Write d | cfg1Write d =>
    obtain ⟨rfl, rfl⟩ := Prod.mk.inj (Option.some.inj h)
    rfl
  | claim | select op | post op | drop op | cancel op | pop | release op | enableStation op | disableStation op
  | linkStart | linkStop | linkResume | snapshot | snapshotClear | softReset =>
    obtain ⟨rfl, rfl⟩ := Prod.mk.inj (Option.some.inj h)
    simp only [hcmd, decodeCommand, code_commandWord, operand_commandWord]
    rfl
  | _ => cases h

theorem extractLsb'_of_low {v w : Word} (h : v.extractLsb' 0 16 = w.extractLsb' 0 16) {lo : Nat} (hlo : lo + 8 ≤ 16) :
    v.extractLsb' lo 8 = w.extractLsb' lo 8 := by
  have hbit : ∀ u : Word, u.extractLsb' lo 8 = (u.extractLsb' 0 16).extractLsb' lo 8 := fun u => by
    refine BitVec.eq_of_getLsbD_eq fun k hk => ?_
    simp [hk, show lo + k < 16 by omega]
  rw [hbit v, h, ← hbit w]

/-- Settles O3: the encoder's words decode to the commands they spell, and a CMD write by its code and operand alone. -/
theorem hostWriteRoundTrip : Obligations.HostWriteRoundTrip := by
  refine ⟨fun c word data => decodeHostWrite_encodeHostWrite, decodeHostWrite_wellFormed, fun v w h => ?_,
    fun v w hc h => decodeCommand_of_noOperand hc h⟩
  exact decodeCommand_congr (extractLsb'_of_low h (by decide)) (extractLsb'_of_low h (by decide))

end Sys2Proof.Machine

/-! The words that the host reads, as sums of the fields' codes (R79, R160, R185, R190, R191, R194, R195). -/

namespace Sys2Proof.Machine

/-! ## A word as a sum of fields -/

theorem fieldAt_zero (width v : Nat) : fieldAt 0 width v = BitVec.ofNat 32 (v % 2 ^ width) := by
  rw [fieldAt, pow_zero, Nat.mul_one]

/-- A field above the fields placed so far is added to them. -/
theorem or_fieldAt {a lo : Nat} (ha : a < 2 ^ lo) (width v : Nat) :
    BitVec.ofNat 32 a ||| fieldAt lo width v = BitVec.ofNat 32 (a + 2 ^ lo * (v % 2 ^ width)) := by
  rw [fieldAt, ← BitVec.ofNat_or, Nat.add_comm, Nat.two_pow_add_eq_or_of_lt ha, Nat.or_comm, Nat.mul_comm]

theorem or_bitAt {a lo : Nat} (ha : a < 2 ^ lo) (b : Bool) :
    BitVec.ofNat 32 a ||| bitAt lo b = BitVec.ofNat 32 (a + 2 ^ lo * b.toNat) := by
  rw [bitAt, or_fieldAt ha, Nat.mod_eq_of_lt (by cases b <;> decide)]

theorem bitAt_zero (b : Bool) : bitAt 0 b = BitVec.ofNat 32 b.toNat := by
  rw [bitAt, fieldAt_zero, Nat.mod_eq_of_lt (by cases b <;> decide)]

/-! ## Codes -/

theorem Status.code_eq (c : Status) : c.code % 2 ^ 4 = [Status.done, .noSlot, .noSpace, .badDescriptor, .fillError,
    .wrongState, .badOperand, .stationDisabled, .linkState, .empty, .unknownCommand].idxOf c := by cases c <;> rfl

theorem Kind.code_eq (k : Kind) : k.code % 2 ^ 2 = [Kind.noKind, .store, .fetch, .control].idxOf k := by cases k <;> rfl

theorem slotNumber_eq (i : Option SlotId) : slotNumber i % 2 ^ 4 = (i.map fun k => k.val).getD 0 := by
  cases i with
  | none => rfl
  | some k => exact Nat.mod_eq_of_lt k.isLt

theorem statusValue_eq (v : Option Byte) : statusValue v % 2 ^ 8 = (v.map fun b => b.toNat).getD 0 := by
  cases v with
  | none => rfl
  | some b => exact Nat.mod_eq_of_lt b.isLt

theorem Ending.code_eq (o : Ending) : o.code % 2 ^ 4 = 1 + [Ending.ok, .stationError, .refused, .linkError, .busyLimit,
    .timedOut, .cancelled, .protocol, .stationFault, .noStation, .withdrawn, .linkLost, .stopped].idxOf o := by
  cases o <;> rfl

theorem SlotState.code_eq (x : SlotState) : x.code % 2 ^ 3 =
    [SlotState.free, .claimed, .queued, .opened, .parked, .aborting, .complete, .settled].idxOf x := by cases x <;> rfl

theorem StationState.code_eq (x : StationState) : x.code % 2 ^ 3 =
    [StationState.disabled, .probing, .online, .absent, .faulty, .withdrawing].idxOf x := by cases x <;> rfl

theorem LinkState.code_eq (l : LinkState) : l.code % 2 ^ 3 =
    [LinkState.off, .starting, .running, .stopping, .suspended].idxOf l := by cases l <;> rfl

theorem BitRate.code_eq (r : BitRate) : r.code % 2 ^ 2 = [BitRate.kbit500, .mbit1, .mbit2, .mbit4].idxOf r := by
  cases r <;> rfl

theorem Cls.code_eq (c : Cls) : c.code % 2 ^ 1 = if c = .urgent then 1 else 0 := by cases c <;> rfl

theorem toNat_mod {n : Nat} (v : BitVec n) : v.toNat % 2 ^ n = v.toNat := Nat.mod_eq_of_lt v.isLt

theorem SlotId.val_mod (i : SlotId) : i.val % 2 ^ 4 = i.val := Nat.mod_eq_of_lt i.isLt

/-! ## The words -/

theorem State.readCmdst_eq (s : State) : s.readCmdst = BitVec.ofNat 32
    (s.status.code % 2 ^ 4 + 2 ^ 8 * (slotNumber s.statusSlot % 2 ^ 4) + 2 ^ 12 * s.statusSlot.isSome.toNat +
      2 ^ 16 * (s.selected.val % 2 ^ 4)) := by
  have hb := s.statusSlot.isSome.toNat_le
  rw [State.readCmdst, fieldAt_zero, or_fieldAt (by omega), or_bitAt (by omega), or_fieldAt (by omega)]

theorem Descriptor.word0_eq (d : Descriptor) : d.word0 = BitVec.ofNat 32
    (d.station.toNat % 2 ^ 4 + 2 ^ 4 * (d.kind.code % 2 ^ 2) + 2 ^ 6 * (d.cls.code % 2 ^ 1) +
      2 ^ 8 * (d.retryAllowance.toNat % 2 ^ 3) + 2 ^ 12 * (d.busyAllowance.toNat % 2 ^ 4) +
      2 ^ 16 * (d.function.toNat % 2 ^ 8)) := by
  rw [Descriptor.word0, fieldAt_zero, or_fieldAt (by omega), or_fieldAt (by omega), or_fieldAt (by omega),
    or_fieldAt (by omega), or_fieldAt (by omega)]

theorem Slot.status0_eq (x : Slot) : x.status0 = BitVec.ofNat 32
    (x.state.code % 2 ^ 3 + 2 ^ 3 * x.fillError.toNat + 2 ^ 4 * (x.chain.length % 2 ^ 5) +
      2 ^ 16 * (x.fillCursor % 2 ^ 10)) := by
  have hb := x.fillError.toNat_le
  rw [Slot.status0, fieldAt_zero, or_bitAt (by omega), or_fieldAt (by omega), or_fieldAt (by omega)]

theorem Slot.status1_eq (x : Slot) : x.status1 = BitVec.ofNat 32
    (x.bytesMoved % 2 ^ 10 + 2 ^ 12 * (outcomeCode x.outcome % 2 ^ 4) + 2 ^ 16 * x.short.toNat +
      2 ^ 17 * x.lateStop.toNat + 2 ^ 18 * x.abortUnconfirmed.toNat + 2 ^ 19 * x.stationStatus.isSome.toNat +
      2 ^ 24 * (statusValue x.stationStatus % 2 ^ 8)) := by
  have h1 := x.short.toNat_le
  have h2 := x.lateStop.toNat_le
  have h3 := x.abortUnconfirmed.toNat_le
  have h4 := x.stationStatus.isSome.toNat_le
  rw [Slot.status1, fieldAt_zero, or_fieldAt (by omega), or_bitAt (by omega), or_bitAt (by omega), or_bitAt (by omega),
    or_bitAt (by omega), or_fieldAt (by omega)]

theorem Record.window0_eq (r : Record) : r.window0 = BitVec.ofNat 32
    (r.seq.toNat % 2 ^ 8 + 2 ^ 8 * (r.slot.val % 2 ^ 4) + 2 ^ 12 * (r.station.toNat % 2 ^ 4) +
      2 ^ 16 * (r.kind.code % 2 ^ 2) + 2 ^ 20 * (r.outcome.code % 2 ^ 4) + 2 ^ 31 * true.toNat) := by
  rw [Record.window0, fieldAt_zero, or_fieldAt (by omega), or_fieldAt (by omega), or_fieldAt (by omega),
    or_fieldAt (by omega), or_bitAt (by omega)]

theorem Record.window1_eq (r : Record) : r.window1 = BitVec.ofNat 32
    (r.bytesMoved % 2 ^ 10 + 2 ^ 12 * r.short.toNat + 2 ^ 13 * r.lateStop.toNat + 2 ^ 14 * r.abortUnconfirmed.toNat +
      2 ^ 15 * r.stationStatus.isSome.toNat + 2 ^ 16 * (statusValue r.stationStatus % 2 ^ 8)) := by
  have h1 := r.short.toNat_le
  have h2 := r.lateStop.toNat_le
  have h3 := r.abortUnconfirmed.toNat_le
  have h4 := r.stationStatus.isSome.toNat_le
  rw [Record.window1, fieldAt_zero, or_bitAt (by omega), or_bitAt (by omega), or_bitAt (by omega), or_bitAt (by omega),
    or_fieldAt (by omega)]

theorem Record.window2_eq (r : Record) : r.window2 =
    BitVec.ofNat 32 (r.retriesUsed % 2 ^ 3 + 2 ^ 8 * (r.busyReplies % 2 ^ 8)) := by
  rw [Record.window2, fieldAt_zero, or_fieldAt (by omega)]

theorem State.readQpst_eq (s : State) : s.readQpst = BitVec.ofNat 32
    (s.queue.length % 2 ^ 5 + 2 ^ 8 * (s.unannounced % 2 ^ 5) + 2 ^ 16 * (s.seqCounter.toNat % 2 ^ 8) +
      2 ^ 24 * (s.freeList.length % 2 ^ 8)) := by
  rw [State.readQpst, fieldAt_zero, or_fieldAt (by omega), or_fieldAt (by omega), or_fieldAt (by omega)]

theorem State.readMask_eq (s : State) : s.readMask = BitVec.ofNat 32
    (s.mask.completion.toNat + 2 ^ 1 * s.mask.station.toNat + 2 ^ 2 * s.mask.link.toNat) := by
  have h1 := s.mask.completion.toNat_le
  have h2 := s.mask.station.toNat_le
  rw [State.readMask, bitAt_zero, or_bitAt (by omega), or_bitAt (by omega)]

theorem State.readLnst_eq (s : State) : s.readLnst = BitVec.ofNat 32
    (s.link.code % 2 ^ 3 + 2 ^ 4 * s.lineFault.toNat + 2 ^ 8 * (s.silentCount % 2 ^ 6)) := by
  have h1 := s.lineFault.toNat_le
  rw [State.readLnst, fieldAt_zero, or_bitAt (by omega), or_fieldAt (by omega)]

theorem HostConfig.word0_eq (c : HostConfig) : c.word0 = BitVec.ofNat 32
    (c.bitRate.code % 2 ^ 2 + 2 ^ 8 * (c.replyTimeout % 2 ^ 8) + 2 ^ 16 * (c.linkLossThreshold % 2 ^ 6) +
      2 ^ 24 * (c.faultThreshold % 2 ^ 4)) := by
  rw [HostConfig.word0, fieldAt_zero, or_fieldAt (by omega), or_fieldAt (by omega), or_fieldAt (by omega)]

theorem HostConfig.word1_eq (c : HostConfig) : c.word1 = BitVec.ofNat 32
    (c.backoffInterval % 2 ^ 8 + 2 ^ 8 * (c.pollInterval % 2 ^ 8) + 2 ^ 16 * (c.completionThreshold % 2 ^ 5) +
      2 ^ 24 * (c.holdoff % 2 ^ 8)) := by
  rw [HostConfig.word1, fieldAt_zero, or_fieldAt (by omega), or_fieldAt (by omega), or_fieldAt (by omega)]

theorem Station.word_eq (r : Station) : r.word = BitVec.ofNat 32
    (r.state.code % 2 ^ 3 + 2 ^ 4 * (r.parkDepth % 2 ^ 2) + 2 ^ 8 * (r.failures % 2 ^ 4) +
      2 ^ 12 * (slotNumber r.engaged % 2 ^ 4) + 2 ^ 16 * r.engaged.isSome.toNat + 2 ^ 20 * (r.parked.length % 2 ^ 2) +
      2 ^ 24 * r.backoff.isSome.toNat + 2 ^ 25 * (decide (r.pollTimer = .expired)).toNat) := by
  have h1 := r.engaged.isSome.toNat_le
  have h2 := r.backoff.isSome.toNat_le
  rw [Station.word, fieldAt_zero, or_fieldAt (by omega), or_fieldAt (by omega), or_fieldAt (by omega),
    or_bitAt (by omega), or_fieldAt (by omega), or_bitAt (by omega), or_bitAt (by omega)]

/-! ## The statements -/

/-- Settles O32: each word's sum, with the codes and numbers of the statement. -/
theorem windowReadsOfSlotsAndRecords : Obligations.WindowReadsOfSlotsAndRecords := by
  intro s x d number value kind outcome status state
  have houtcome : outcomeCode x.outcome % 2 ^ 4 = (x.outcome.map outcome).getD 0 := by
    cases x.outcome with
    | none => rfl
    | some o => exact o.code_eq
  refine ⟨?_, ?_, ?_, ?_, ?_, ?_, fun h => ?_, fun r rest h => ?_, ?_⟩
  · refine s.readCmdst_eq.trans ?_
    rw [Status.code_eq, slotNumber_eq, SlotId.val_mod]
  · refine s.selectedSlot.desc.word0_eq.trans ?_
    rw [toNat_mod, Kind.code_eq, Cls.code_eq, toNat_mod, toNat_mod, toNat_mod]
    rfl
  · show s.selectedSlot.desc.word1 = _
    rw [Descriptor.word1, fieldAt_zero, or_fieldAt (by omega), toNat_mod, toNat_mod]
    rfl
  · show s.selectedSlot.desc.word2 = _
    rw [Descriptor.word2, fieldAt_zero, toNat_mod]
    rfl
  · refine s.selectedSlot.status0_eq.trans ?_
    rw [SlotState.code_eq]
    rfl
  · refine s.selectedSlot.status1_eq.trans ?_
    rw [show s.selectedSlot = x from rfl, houtcome, statusValue_eq]
    rfl
  · have hempty : ∀ view, s.readHead view = 0 := fun view => by rw [State.readHead, h]
    exact ⟨hempty _, hempty _, hempty _⟩
  · have hhead : ∀ view, s.readHead view = view r := fun view => by rw [State.readHead, h]
    refine ⟨(hhead _).trans (r.window0_eq.trans ?_), (hhead _).trans (r.window1_eq.trans ?_),
      (hhead _).trans r.window2_eq⟩
    · rw [toNat_mod, SlotId.val_mod, toNat_mod, Kind.code_eq, Ending.code_eq]
      rfl
    · rw [statusValue_eq]
      rfl
  · refine s.readQpst_eq.trans ?_
    rw [toNat_mod]
    rfl

/-- The word of a station is that of its record. -/
theorem State.readWord_station (s : State) {st : StationId} {word : BitVec 5} (h : word.toNat = 17 + st.val) :
    s.readWord word = (s.station st).word := by
  unfold State.readWord
  rw [h]
  fin_cases st <;> rfl

/-- Settles O33: each word's sum, with the codes and numbers of the statement. -/
theorem windowReadsOfLinkAndStations : Obligations.WindowReadsOfLinkAndStations := by
  refine ⟨fun word => rfl, fun s => ⟨rfl, rfl, fun t ht => ?_, ?_, ?_, ?_, ?_, fun st word h => ?_⟩⟩
  · have hread : t.readData = s.dwinWord := by
      have hexec : exec .dataWindowRead s = execDataWindowRead s := rfl
      rw [hexec, execDataWindowRead] at ht
      split at ht <;> cases ht <;> rfl
    exact hread.symm
  · exact s.readMask_eq
  · refine s.readLnst_eq.trans ?_
    rw [LinkState.code_eq]
    rfl
  · refine s.cfg.word0_eq.trans ?_
    rw [BitRate.code_eq]
    rfl
  · exact s.cfg.word1_eq
  · intro r
    have hexpired : (decide (r.pollTimer = .expired)).toNat = if r.pollTimer = .expired then 1 else 0 := by
      split <;> simp_all
    refine (s.readWord_station h).trans ((s.station st).word_eq.trans ?_)
    rw [StationState.code_eq, slotNumber_eq, show s.station st = r from rfl, hexpired]
    rfl

end Sys2Proof.Machine

/-! The scheduler's order of choice (R80 to R94). -/

namespace Sys2Proof.Machine

/-! ## The search over the stations -/

theorem stationOrder_eq : stationOrder = List.finRange 8 := by decide

/-- The ascending search finds the station that holds `p` when no lower one does. -/
theorem find?_stationOrder_eq_some {p : StationId → Bool} {st : StationId} (hst : p st = true)
    (hlow : ∀ v : StationId, v < st → p v = false) : stationOrder.find? p = some st := by
  rw [stationOrder_eq, List.find?_eq_some_iff_getElem]
  refine ⟨hst, st.val, by simp, by simp, fun k hk => ?_⟩
  have hp := hlow ⟨k, hk.trans st.isLt⟩ hk
  simpa using hp

theorem find?_stationOrder_eq_none {p : StationId → Bool} (h : ∀ v : StationId, p v = false) :
    stationOrder.find? p = none := by
  simp [stationOrder_eq, h]

/-! ## What the walk finds at a slot -/

/-- A slot that its station lets the walk look at: the station is ONLINE and out of backoff, and the slot offers a frame. -/
def State.walks (s : State) (i : SlotId) (st : StationId) : Prop :=
  (s.slot i).desc.stationId = some st ∧ (s.station st).state = .online ∧ (s.station st).backoff = none ∧
    (s.slot i).nextFrame ≠ none

theorem Station.hasParkRoom_iff (r : Station) :
    r.hasParkRoom = true ↔ r.parked.length < r.parkDepth ∨ (r.parkDepth = 0 ∧ r.parked = []) := by
  simp [Station.hasParkRoom]

/-- What the walk finds at a slot that it looks at, by the slot's state (R90 to R92). -/
theorem State.walkChoice_of_walks {s : State} {i : SlotId} {st : StationId} (h : s.walks i st) : s.walkChoice i =
    match (s.slot i).state with
    | .opened => some (.slotFrame i)
    | .parked => if (s.slot i).ready && (s.station st).engaged.isNone then some (.resume i) else none
    | .queued => if (s.station st).engaged.isNone && (s.station st).hasParkRoom then some (.slotFrame i) else none
    | .aborting => none
    | .free => none
    | .claimed => none
    | .complete => none
    | .settled => none := by
  obtain ⟨hd, hon, hb, hn⟩ := h
  have hguard : (decide ((s.station st).state = .online) && (s.station st).backoff.isNone &&
      (s.slot i).nextFrame.isSome) = true := by
    simp [hon, hb, Option.isSome_iff_ne_none, hn]
  unfold State.walkChoice
  simp only [hd]
  exact (if_pos hguard).trans rfl

/-- At a slot that it does not look at the walk finds nothing. -/
theorem State.walkChoice_of_not_walks {s : State} {i : SlotId} (h : ∀ st, ¬ s.walks i st) : s.walkChoice i = none := by
  unfold State.walkChoice
  dsimp only
  cases hd : (s.slot i).desc.stationId with
  | none => rfl
  | some st =>
    have hguard : ¬ (decide ((s.station st).state = .online) && (s.station st).backoff.isNone &&
        (s.slot i).nextFrame.isSome) = true := fun hg => by
      simp only [Bool.and_eq_true, decide_eq_true_eq, Option.isNone_iff_eq_none, Option.isSome_iff_ne_none] at hg
      exact h st ⟨hd, hg.1.1, hg.1.2, hg.2⟩
    exact if_neg hguard

/-- The frame of an OPEN slot, and the OPEN of a QUEUED one at a station with nothing engaged and room to park (R90, R92). -/
theorem State.walkChoice_slotFrame {s : State} {i : SlotId} {st : StationId} (h : s.walks i st)
    (hs : (s.slot i).state = .opened ∨ ((s.slot i).state = .queued ∧ (s.station st).engaged = none ∧
      ((s.station st).parked.length < (s.station st).parkDepth ∨
        ((s.station st).parkDepth = 0 ∧ (s.station st).parked = [])))) : s.walkChoice i = some (.slotFrame i) := by
  rw [State.walkChoice_of_walks h]
  rcases hs with hs | ⟨hs, he, hroom⟩
  · rw [hs]
  · rw [hs]
    exact if_pos (by rw [he, (Station.hasParkRoom_iff _).mpr hroom]; rfl)

/-- The resumption of a ready PARKED slot (R91). -/
theorem State.walkChoice_of_ready {s : State} {i : SlotId} {st : StationId} (h : s.walks i st)
    (hs : (s.slot i).state = .parked) (hr : (s.slot i).ready = true) (he : (s.station st).engaged = none) :
    s.walkChoice i = some (.resume i) := by
  rw [State.walkChoice_of_walks h, hs]
  exact if_pos (by rw [hr, he]; rfl)

/-- What the walk finds is one of these. -/
theorem State.walkChoice_ne_none {s : State} {i : SlotId} (h : s.walkChoice i ≠ none) : ∃ st, s.walks i st ∧
    ((s.slot i).state = .opened ∨
      ((s.slot i).state = .queued ∧ (s.station st).engaged = none ∧ (s.station st).hasParkRoom = true) ∨
      ((s.slot i).state = .parked ∧ (s.slot i).ready = true ∧ (s.station st).engaged = none)) := by
  by_contra hnot
  refine h ?_
  by_cases hw : ∃ st, s.walks i st
  · obtain ⟨st, hw⟩ := hw
    have hcase := not_and.mp (not_exists.mp hnot st) hw
    rw [State.walkChoice_of_walks hw]
    split
    case h_1 hs => exact absurd (.inl hs) hcase
    case h_2 hs =>
      refine if_neg fun hg => hcase (.inr (.inr ⟨hs, ?_⟩))
      simpa using hg
    case h_3 hs =>
      refine if_neg fun hg => hcase (.inr (.inl ⟨hs, ?_⟩))
      simpa using hg
    all_goals rfl
  · exact State.walkChoice_of_not_walks fun st hst => hw ⟨st, hst⟩

/-! ## The steps of the choice -/

theorem State.abortOwed_iff (s : State) (i : SlotId) : s.abortOwed i = true ↔
    (s.slot i).state = .aborting ∧ s.stationStateOf (s.slot i) = some .online := by
  rw [State.abortOwed, Bool.and_eq_true, decide_eq_true_eq, decide_eq_true_eq]

theorem Station.pollEligible_iff (r : Station) :
    r.pollEligible = true ↔ r.state = .online ∧ r.pollTimer = .expired ∧ r.backoff = none := by
  simp [Station.pollEligible, and_assoc]

theorem State.choose_running {s : State} (h : s.link = .running) :
    s.choose = s.abortChoice.or (s.syncChoice.or (s.pollChoice.or (s.walkOrder.findSome? s.walkChoice))) := by
  rw [State.choose, h]

/-- The SYNC owed to the lowest address (R87). -/
theorem State.syncChoice_eq_some {s : State} {st : StationId} (h : (s.station st).owesSync = true)
    (hlow : ∀ v, v < st → (s.station v).owesSync = false) : s.syncChoice = some (.sync st) := by
  rw [State.syncChoice, find?_stationOrder_eq_some h hlow]
  rfl

theorem State.syncChoice_eq_none {s : State} (h : ∀ v, (s.station v).owesSync = false) : s.syncChoice = none := by
  rw [State.syncChoice, find?_stationOrder_eq_none h]
  rfl

theorem Station.owesSync_iff (r : Station) : r.owesSync = true ↔ r.state = .probing ∨ r.state = .withdrawing := by
  simp [Station.owesSync]

/-- Settles O34: the four steps in their order, each by its search. -/
theorem orderOfChoice : Obligations.OrderOfChoice := by
  refine ⟨fun s hl => ?_, fun s => ⟨fun hl => ⟨fun st h hlow => ?_, fun h => ?_⟩, fun hl => ?_, fun h => ?_⟩⟩
  · intro owed sync due serves room sends resumes
    rw [State.choose_running hl]
    refine ⟨fun front i rest hwalk hi hfront => ?_, fun hnone => ?_⟩
    · have habort : s.abortChoice = some (.slotFrame i) := by
        rw [State.abortChoice, hwalk, List.find?_append,
          List.find?_eq_none.mpr fun j hj => mt (s.abortOwed_iff j).mp (hfront j hj), Option.none_or,
          List.find?_cons_of_pos ((s.abortOwed_iff i).mpr hi)]
        rfl
      rw [habort]
      rfl
    have habort : s.abortChoice = none := by
      rw [State.abortChoice, List.find?_eq_none.mpr fun j hj => mt (s.abortOwed_iff j).mp (hnone j hj)]
      rfl
    rw [habort, Option.none_or]
    refine ⟨fun st hst hlow => ?_, fun hnosync => ?_⟩
    · rw [State.syncChoice_eq_some ((Station.owesSync_iff _).mpr hst) fun v hv =>
        Bool.eq_false_iff.mpr (mt (Station.owesSync_iff _).mp (hlow v hv))]
      rfl
    rw [State.syncChoice_eq_none fun v => Bool.eq_false_iff.mpr (mt (Station.owesSync_iff _).mp (hnosync v)),
      Option.none_or]
    refine ⟨fun st hst hlow => ?_, fun hnopoll => ?_⟩
    · rw [State.pollChoice, find?_stationOrder_eq_some ((Station.pollEligible_iff _).mpr hst) fun v hv =>
        Bool.eq_false_iff.mpr (mt (Station.pollEligible_iff _).mp (hlow v hv))]
      rfl
    have hpoll : s.pollChoice = none := by
      rw [State.pollChoice, find?_stationOrder_eq_none fun v =>
        Bool.eq_false_iff.mpr (mt (Station.pollEligible_iff _).mp (hnopoll v))]
      rfl
    rw [hpoll, Option.none_or]
    have hskip : ∀ j, ¬ sends j → ¬ resumes j → s.walkChoice j = none := fun j hs hr => by
      by_contra hne
      obtain ⟨st, hw, hopen | ⟨hq, he, hroom⟩ | ⟨hp, hready, he⟩⟩ := State.walkChoice_ne_none hne
      · exact hs ⟨st, hw, .inl hopen⟩
      · exact hs ⟨st, hw, .inr ⟨hq, he, (Station.hasParkRoom_iff _).mp hroom⟩⟩
      · exact hr ⟨st, hw, hp, hready, he⟩
    refine ⟨fun front i rest hwalk hfront => ?_, fun hnowalk => ?_⟩
    · have hfirst : ∀ c, s.walkChoice i = some c → s.walkOrder.findSome? s.walkChoice = some c := fun c hc =>
        List.findSome?_eq_some_iff.mpr ⟨front, i, rest, hwalk, hc, fun j hj => hskip j (hfront j hj).1 (hfront j hj).2⟩
      exact ⟨fun ⟨st, hw, hs⟩ => hfirst _ (State.walkChoice_slotFrame hw hs),
        fun ⟨st, hw, hp, hready, he⟩ => hfirst _ (State.walkChoice_of_ready hw hp hready he)⟩
    · exact List.findSome?_eq_none_iff.mpr fun j hj => hskip j (hnowalk j hj).1 (hnowalk j hj).2
  · rw [State.choose, hl]
    exact State.syncChoice_eq_some h hlow
  · rw [State.choose, hl]
    exact State.syncChoice_eq_none h
  · simp only [List.mem_cons, List.not_mem_nil, or_false] at hl
    rcases hl with h | h | h <;> rw [State.choose, h]
  · rcases h with h | h | h
    · rw [State.dispatch, h]
      split <;> rfl
    · exact State.dispatch_busy (by simp [State.lineIdle, h])
    · exact State.dispatch_busy (by simp [State.lineIdle, h])

end Sys2Proof.Machine

/-! The step of a choice: the frame that enters SENDING and its bytes, and a resumption (R49, R51, R76, R91, R95, R103, R107,
R127). -/

namespace Sys2Proof.Machine

/-- At an idle line the chosen frame enters SENDING. -/
theorem State.dispatch_of_choice {s : State} {c : Choice} (hf : s.frame = none) (hg : s.gapPassed = true)
    (hc : s.choose = some c) : s.dispatch = s.sendChoice c := by
  rw [State.dispatch, if_pos (by simp [State.lineIdle, hf, hg]), hc]

/-- The step of choosing a slot's frame, every field written out (R95). -/
theorem State.sendSlotFrame_eq {s : State} {i : SlotId} {st : StationId} {kind : FrameKind} {index : Nat}
    (hn : (s.slot i).nextFrame = some (kind, index)) (hd : (s.slot i).desc.stationId = some st) :
    s.sendSlotFrame i = { s with
      slots := s.slots.set i.val { s.slot i with
        inFlight := true, possiblyOpened := (s.slot i).possiblyOpened || decide (kind = .openReq) }
      frame := some (buildSlotFrame s.mem i (s.slot i) kind st index)
      gapPassed := false
      receiver := .waiting
      stats := { s.stats with framesSent := s.stats.framesSent + 1 } } := by
  unfold State.sendSlotFrame
  simp only [hn, hd]
  rfl

/-! ## The bytes -/

/-- The upper byte of a length. -/
theorem extractLsb'_setWidth_high (len : BitVec 10) :
    (len.setWidth 16).extractLsb' 8 8 = BitVec.ofNat 8 (len.toNat / 256) := by
  refine BitVec.eq_of_toNat_eq ?_
  have hlen := len.isLt
  simp [BitVec.extractLsb'_toNat, Nat.shiftRight_eq_div_pow]
  omega

theorem extractLsb'_setWidth_low (len : BitVec 10) : (len.setWidth 16).extractLsb' 0 8 = len.extractLsb' 0 8 := by
  refine BitVec.eq_of_getLsbD_eq fun k hk => ?_
  simp [hk, show k < 16 by omega]

/-- The frame of an OPEN (R48, R51, R103). -/
theorem buildSlotFrame_openReq (m : Memory) (i : SlotId) (x : Slot) (st : StationId) :
    buildSlotFrame m i x .openReq st 0 =
      { kind := .openReq, station := st, slot := some i, index := 0, phase := .sending, replyTimer := none
        bytes := frameBytes [BitVec.ofNat 8 (st.val + 1), 2, BitVec.ofNat 8 i.val, x.desc.function, 5,
          BitVec.ofNat 8 x.desc.kind.code, x.desc.selector.extractLsb' 0 8, x.desc.selector.extractLsb' 8 8,
          x.desc.length.extractLsb' 0 8, BitVec.ofNat 8 (x.desc.length.toNat / 256)] } := by
  have hbody : frameBody (routeByte st false) FrameKind.openReq.code i.val 0 (slotArgument x .openReq)
      (slotPayload m x .openReq 0) = [BitVec.ofNat 8 (st.val + 1), 2, BitVec.ofNat 8 i.val, x.desc.function, 5,
        BitVec.ofNat 8 x.desc.kind.code, x.desc.selector.extractLsb' 0 8, x.desc.selector.extractLsb' 8 8,
        (x.desc.length.setWidth 16).extractLsb' 0 8, (x.desc.length.setWidth 16).extractLsb' 8 8] := rfl
  rw [buildSlotFrame, hbody, extractLsb'_setWidth_high, extractLsb'_setWidth_low]

/-- The payload of a slot's frame other than OPEN: a SEND's segment, and none for the others (R35, R107). -/
def Slot.payloadOf (x : Slot) (m : Memory) (kind : FrameKind) (index : Nat) : List Byte :=
  if kind = .send then chainBytes m x.chain (64 * index) (min 64 (x.len - 64 * index)) else []

/-- The frame of a SEND, PULL, FINISH or ABORT (R48, R51). -/
theorem buildSlotFrame_eq {kind : FrameKind} {code : Byte}
    (hk : (kind, code) ∈ [(FrameKind.send, (3 : Byte)), (.pull, 4), (.finish, 5), (.abort, 7)]) (m : Memory) (i : SlotId)
    (x : Slot) (st : StationId) (index : Nat) : buildSlotFrame m i x kind st index =
      { kind := kind, station := st, slot := some i, index := index, phase := .sending, replyTimer := none
        bytes := frameBytes ([BitVec.ofNat 8 (st.val + 1), code, BitVec.ofNat 8 (i.val + 16 * index), 0,
          BitVec.ofNat 8 (x.payloadOf m kind index).length] ++ x.payloadOf m kind index) } := by
  simp only [List.mem_cons, Prod.mk.injEq, List.not_mem_nil, or_false] at hk
  rcases hk with ⟨rfl, rfl⟩ | ⟨rfl, rfl⟩ | ⟨rfl, rfl⟩ | ⟨rfl, rfl⟩ <;> rfl

/-- A frame of these kinds is no OPEN. -/
theorem FrameKind.ne_openReq_of_mem {kind : FrameKind} {code : Byte}
    (hk : (kind, code) ∈ [(FrameKind.send, (3 : Byte)), (.pull, 4), (.finish, 5), (.abort, 7)]) : kind ≠ .openReq := by
  simp only [List.mem_cons, Prod.mk.injEq, List.not_mem_nil, or_false] at hk
  rcases hk with ⟨rfl, -⟩ | ⟨rfl, -⟩ | ⟨rfl, -⟩ | ⟨rfl, -⟩ <;> nofun

/-! ## A resumption -/

/-- A resumption is chosen only for a ready slot (R91). -/
theorem State.ready_of_choose_resume {s : State} {i : SlotId} (h : s.choose = some (.resume i)) :
    (s.slot i).ready = true := by
  have hstate := State.choose_resume h
  unfold State.choose at h
  split at h
  case h_1 =>
    simp only [Option.or_eq_some_iff, State.abortChoice, State.syncChoice, State.pollChoice, Option.map_eq_some_iff,
      reduceCtorEq, and_false, exists_false, false_or] at h
    obtain ⟨-, -, -, hwalk⟩ := h
    obtain ⟨_, j, _, -, hj, -⟩ := List.findSome?_eq_some_iff.mp hwalk
    obtain ⟨rfl, -⟩ := State.walkChoice_resume hj
    obtain ⟨st, -, hs | ⟨hs, -⟩ | ⟨-, hready, -⟩⟩ := State.walkChoice_ne_none (by rw [hj]; nofun)
    · rw [hstate] at hs
      cases hs
    · rw [hstate] at hs
      cases hs
    · exact hready
  case h_2 => simp [State.syncChoice] at h
  all_goals cases h

/-- The resumption of a slot, every field written out (R91). -/
theorem State.resumeSlot_eq {s : State} {i : SlotId} {st : StationId} (hd : (s.slot i).desc.stationId = some st) :
    s.resumeSlot i = { s with
      slots := s.slots.set i.val { s.slot i with state := .opened, ready := false }
      stations := s.stations.set st.val
        { (s.station st).unpark i (fun j => (s.slot j).ready) with engaged := some i } } := by
  unfold State.resumeSlot
  simp only [hd, State.leaveParked_eq]
  simp [State.modStation, State.modSlot, State.setStation, State.setSlot, State.station, State.slot]

/-- A ready slot leaves the parked list without a change of the poll condition, and so of a fitting timer (R76). -/
theorem State.unpark_pollTimer_of_ready {s : State} {i : SlotId} {st : StationId} (hready : (s.slot i).ready = true)
    (hfit : s.pollFits st) :
    ((s.station st).unpark i fun j => (s.slot j).ready).pollTimer = (s.station st).pollTimer := by
  have hcond : (decide ((s.station st).state = .online) && ((s.station st).parked.erase i).any fun j => !(s.slot j).ready) =
      s.pollCondition st := by
    rw [State.pollCondition]
    congr 1
    rw [Bool.eq_iff_iff, List.any_eq_true, List.any_eq_true]
    refine ⟨fun ⟨j, hj, hr⟩ => ⟨j, List.mem_of_mem_erase hj, hr⟩, fun ⟨j, hj, hr⟩ => ⟨j, ?_, hr⟩⟩
    have hne : j ≠ i := fun e => by
      rw [e, hready] at hr
      cases hr
    exact (List.mem_erase_of_ne hne).mpr hj
  obtain ⟨hruns, -, -, -⟩ := hfit
  rw [Station.unpark]
  split
  · exact hcond ▸ if_neg fun ⟨hc, ht⟩ => Bool.noConfusion ((hruns ht).symm.trans hc)
  · rfl

/-- Settles O35: each choice by the frame it builds; a resumption first takes its slot out of the parked list. -/
theorem chosenFramesEnterSending : Obligations.ChosenFramesEnterSending := by
  refine ⟨fun s i st hf hg hc hq hd => ?_, fun s i st kind index code hf hg hc hst hd hn hk => ?_, fun s st hf hg => ?_,
    fun s i st kind index code hf hg hc hst hd hfit hin hn hk => ?_⟩
  · intro x sel len
    have hn : (s.slot i).nextFrame = some (.openReq, 0) := by simp [Slot.nextFrame, hq]
    rw [State.dispatch_of_choice hf hg hc]
    refine (State.sendSlotFrame_eq hn hd).trans ?_
    rw [buildSlotFrame_openReq, decide_eq_true rfl, Bool.or_true]
  · intro x payload
    rw [State.dispatch_of_choice hf hg hc]
    refine (State.sendSlotFrame_eq hn hd).trans ?_
    rw [buildSlotFrame_eq hk, decide_eq_false (FrameKind.ne_openReq_of_mem hk), Bool.or_false]
    rfl
  · intro sent
    refine ⟨fun hc => ?_, fun hc => ?_⟩
    · rw [State.dispatch_of_choice hf hg hc]
      rfl
    · rw [State.dispatch_of_choice hf hg hc]
      rfl
  · intro x payload t
    have hk' : (kind, code) ∈ [(FrameKind.send, (3 : Byte)), (.pull, 4), (.finish, 5), (.abort, 7)] := by
      simp only [List.mem_cons] at hk ⊢
      tauto
    have hresumed : (s.resumeSlot i).slot i = { s.slot i with state := .opened, ready := false } := by
      rw [State.resumeSlot_eq hd]
      simp [State.slot]
    have hnext : ((s.resumeSlot i).slot i).nextFrame = some (kind, index) := by
      rw [hresumed, ← hn]
      simp [Slot.nextFrame, hst, Slot.exchangeFrame]
    have ht : t = { s with
        slots := s.slots.set i.val { x with state := .opened, ready := false, inFlight := true }
        stations := s.stations.set st.val
          { (s.station st).unpark i (fun j => (s.slot j).ready) with engaged := some i }
        frame := some
          { kind := kind, station := st, slot := some i, index := index, phase := .sending, replyTimer := none
            bytes := frameBytes ([BitVec.ofNat 8 (st.val + 1), code, BitVec.ofNat 8 (i.val + 16 * index), 0,
              BitVec.ofNat 8 payload.length] ++ payload) }
        gapPassed := false
        receiver := .waiting
        stats := { s.stats with framesSent := s.stats.framesSent + 1 } } := by
      refine (State.dispatch_of_choice hf hg hc).trans ?_
      show (s.resumeSlot i).sendSlotFrame i = _
      rw [State.sendSlotFrame_eq hnext (by rw [hresumed]; exact hd), hresumed, buildSlotFrame_eq hk',
        decide_eq_false (FrameKind.ne_openReq_of_mem hk'), Bool.or_false, State.resumeSlot_eq hd]
      simp only [Vector.set_set]
      rfl
    have hself : t.station st = { (s.station st).unpark i (fun j => (s.slot j).ready) with engaged := some i } := by
      rw [ht]
      simp [State.station]
    refine ⟨?_, ?_, fun hpoll => ?_, fun v hv => ?_⟩
    · rw [ht]
    · have herase : (s.station st).parked.erase i = (s.station st).parked.filter fun j => decide (j ≠ i) := by
        rw [hfit.1.erase_eq_filter]
        exact List.filter_congr fun j _ => by by_cases hj : j = i <;> simp [hj]
      rw [hself, ← herase]
      rfl
    · rw [hself]
      exact State.unpark_pollTimer_of_ready (State.ready_of_choose_resume hc) hpoll
    · rw [ht]
      simp [State.station, Vector.getElem_set_ne, Fin.val_ne_of_ne hv.symm]

end Sys2Proof.Machine

/-! The events of the line and of the timers (R46, R47, R52, R53, R59, R61, R75, R76, R80, R81, R165). -/

namespace Sys2Proof.Machine

theorem State.lineDE_iff (s : State) : s.lineDE = true ↔ ∃ f, s.frame = some f ∧ f.phase = .sending := by
  unfold State.lineDE
  cases s.frame <;> simp

theorem State.gapMayEnd_iff (s : State) :
    s.gapMayEnd = true ↔ (∀ f, s.frame = some f → f.phase ≠ .sending) ∧ s.receiver ≠ .frameOpen := by
  rw [State.gapMayEnd, Bool.and_eq_true, Bool.not_eq_true', ← Bool.not_eq_true, State.lineDE_iff, decide_eq_true_eq]
  simp

/-- The gap ends while no bit is driven and no received frame is open that a byte has been received of. -/
theorem exec_interFrameGapEnd {s : State} (h : s.gapMayEnd = true) :
    exec .interFrameGapEnd s = .next (State.dispatch { s with gapPassed := true }) := if_pos h

/-- A start bit outside AWAITING and SENDING is that of a byte of the open received frame, or of a late reply. -/
theorem exec_replyBegins_of_receiving {s : State} (h : ∀ f ∈ s.frame, f.phase = .receiving) :
    exec .replyBegins s = .next s.startByte := by
  show execReplyBegins s = _
  unfold execReplyBegins
  cases hf : s.frame with
  | none => rfl
  | some f =>
    have hp : f.phase = .receiving := h f (by rw [hf]; rfl)
    simp only [hp]

/-- A late reply is one that ends with no frame in AWAITING or RECEIVING (R59). -/
theorem exec_lateReply {s : State} (h : ∀ f ∈ s.frame, f.phase = .sending) : exec .lateReply s = .next s.countLate := by
  show execLateReply s = _
  unfold execLateReply
  cases hf : s.frame with
  | none => rfl
  | some f => exact if_pos (h f (by rw [hf]; rfl))

/-- Settles O36: each event by its own condition. -/
theorem lineAndTimerEvents : Obligations.LineAndTimerEvents := by
  intro s
  refine ⟨fun hf hr => ?_, fun h => ?_, fun h => ⟨fun hr => ?_, fun hr => ?_, fun hr => ?_⟩,
    fun f hf => ⟨fun hp => ?_, fun hp => ?_, fun hp hr => ?_, fun hp => ?_⟩,
    fun h => ?_, fun a st ha => ?_, fun n hn => ?_⟩
  · exact exec_interFrameGapEnd (s.gapMayEnd_iff.mpr ⟨fun f h => absurd (hf.symm.trans h) nofun, hr⟩)
  · refine if_neg fun hend => ?_
    obtain ⟨hsending, hopen⟩ := s.gapMayEnd_iff.mp hend
    rcases h with h | ⟨f, hf, hp⟩
    · exact hopen h
    · exact hsending f hf hp
  · rw [exec_replyBegins_of_receiving h, State.startByte_eq, if_pos hr]
  · rw [exec_replyBegins_of_receiving h, State.startByte_eq, if_neg (by rw [hr]; nofun), State.firstByteReceived_eq,
      if_pos hr]
  · rw [exec_replyBegins_of_receiving h, State.startByte_eq, if_neg (by rw [hr]; nofun), State.firstByteReceived_eq,
      if_neg (by rw [hr]; nofun)]
  · show execFrameSent s = _
    simp only [execFrameSent, hf]
    exact if_pos hp
  · show execReplyBegins s = _
    simp only [execReplyBegins, hf, hp]
  · rw [exec_interFrameGapEnd (s.gapMayEnd_iff.mpr ⟨fun g hg => ?_, hr⟩), State.dispatch_busy (by simp [State.lineIdle, hf])]
    rw [hf] at hg
    cases hg
    exact hp
  · show execReplyBegins s = _
    simp only [execReplyBegins, hf, hp]
  · exact exec_lateReply h
  · refine ⟨fun hb => ?_, fun n hn => ?_⟩
    · show execBackoffExpiry a s = _
      rw [execBackoffExpiry, stationOfAddress_eq ha]
      exact if_pos (Option.isSome_iff_ne_none.mpr hb)
    · show execPollTimerExpiry a s = _
      rw [execPollTimerExpiry, stationOfAddress_eq ha]
      exact if_pos (by rw [hn]; rfl)
  · show execHoldoffExpiry s = _
    simp only [execHoldoffExpiry, hn]
    by_cases h1 : 1 ≤ s.unannounced
    · rw [if_pos h1, decide_eq_true h1, Bool.or_true]
      rfl
    · have hzero : s.unannounced = 0 := by omega
      rw [if_neg h1, decide_eq_false h1, Bool.or_false, ← hzero]

end Sys2Proof.Machine

/-! The bytes of a frame and its CRC (R48, R50). -/

namespace Sys2Proof.Machine

/-- Where no one is shifted out, the shift adds no polynomial. -/
theorem crcShift_of_msb_false {r : BitVec 16} (h : r.getLsbD 15 = false) : crcShift r = r <<< 1 := by
  rw [crcShift, h]
  exact if_neg Bool.false_ne_true

/-- A remainder whose upper `n` bits are clear is only shifted by `n` shifts. -/
theorem repeat_crcShift {n : Nat} : ∀ {r : BitVec 16}, (∀ k, 16 - n ≤ k → r.getLsbD k = false) → n ≤ 16 →
    Nat.repeat crcShift n r = r <<< n := by
  induction n with
  | zero => intro r _ _; simp [Nat.repeat]
  | succ n ih =>
    intro r hclear hn
    rw [Nat.repeat, ih (fun k hk => hclear k (by omega)) (by omega), crcShift_of_msb_false]
    · rw [← BitVec.shiftLeft_add]
    · simp only [BitVec.getLsbD_shiftLeft]
      simp [hclear (15 - n) (by omega)]

theorem crc16_append (bytes : List Byte) (b : Byte) : crc16 (bytes ++ [b]) = crcByte (crc16 bytes) b := by
  simp [crc16]

/-- The upper byte of the remainder, fed in, leaves the lower byte in its place. -/
theorem crcByte_high (r : BitVec 16) : crcByte r (r.extractLsb' 8 8) = (r.extractLsb' 0 8).setWidth 16 <<< 8 := by
  have hlow : r ^^^ ((r.extractLsb' 8 8).setWidth 16 <<< 8) = (r.extractLsb' 0 8).setWidth 16 := by
    ext k hk
    by_cases h : k < 8
    · simp [h, BitVec.getLsbD_eq_getElem hk]
    · have hpos : 8 + (k - 8) = k := by omega
      have hupper : k - 8 < 8 := by omega
      simp [h, hpos, hupper, BitVec.getLsbD_eq_getElem hk]
  rw [crcByte, hlow, repeat_crcShift (fun k hk => ?_) (by omega)]
  rw [BitVec.getLsbD_setWidth, BitVec.getLsbD_of_ge _ _ (by omega), Bool.and_false]

/-- A run of bytes followed by its own CRC, upper byte first, leaves no remainder. -/
theorem crc16_residue (bytes : List Byte) :
    crc16 (bytes ++ [(crc16 bytes).extractLsb' 8 8, (crc16 bytes).extractLsb' 0 8]) = 0 := by
  have happend : ∀ hi lo : Byte, bytes ++ [hi, lo] = bytes ++ [hi] ++ [lo] := by simp
  rw [happend, crc16_append, crc16_append, crcByte_high, crcByte, BitVec.xor_self]
  rfl

/-- The check value: each byte's part of the computation in turn. -/
theorem crc16_check : crc16 [0x31, 0x32, 0x33, 0x34, 0x35, 0x36, 0x37, 0x38, 0x39] = 0x29B1 := by
  simp [crc16, crcByte, crcShift, Nat.repeat]

/-- Settles O4: the layout and the shifts by definition, the residue by the two bytes of the CRC fed back. -/
theorem frameBytesAndCrc : Obligations.FrameBytesAndCrc := by
  unfold Obligations.FrameBytesAndCrc
  exact ⟨fun _ => rfl, rfl, fun bytes b => crc16_append bytes b, crc16_check, crc16_residue⟩

end Sys2Proof.Machine

/-! The levels of the line and the grouping of received bytes (R42, R43, R45, R46). -/

namespace Sys2Proof.Machine

theorem length_lineBits (b : Byte) : (lineBits b).length = 10 := by simp [lineBits]

/-- The start bit, the eight data bits, the stop bit. -/
theorem lineBits_getElem? {b : Byte} {j : Nat} (hj : j < 10) :
    (lineBits b)[j]? = some (if j = 0 then false else if j = 9 then true else b.getLsbD (j - 1)) := by
  obtain rfl | ⟨i, rfl⟩ : j = 0 ∨ ∃ i, j = i + 1 := by cases j <;> simp
  · rfl
  · by_cases h : i = 8
    · subst h
      rfl
    · have hi : i < 8 := by omega
      simp [lineBits, List.getElem?_append, hi, h]

theorem length_frameLevels (bytes : List Byte) : (frameLevels bytes).length = 10 * bytes.length := by
  induction bytes with
  | nil => rfl
  | cons b bytes ih =>
    rw [frameLevels_cons, List.length_append, length_lineBits, ih, List.length_cons]
    omega

/-- Level `j` of byte `k` stands at bit-time `10 k + j`. -/
theorem frameLevels_getElem? {bytes : List Byte} {j : Nat} (hj : j < 10) : ∀ {k : Nat} {b : Byte}, bytes[k]? = some b →
    (frameLevels bytes)[10 * k + j]? = (lineBits b)[j]? := by
  induction bytes with
  | nil => intro k b h; cases h
  | cons c bytes ih =>
    intro k b h
    rw [frameLevels_cons]
    cases k with
    | zero =>
      cases h
      rw [Nat.mul_zero, Nat.zero_add, List.getElem?_append_left (by rw [length_lineBits]; exact hj)]
    | succ k =>
      rw [List.getElem?_append_right (by rw [length_lineBits]; omega), length_lineBits,
        show 10 * (k + 1) + j - 10 = 10 * k + j by omega]
      exact ih h

theorem State.lineTx_eq_true_of_lineDE_false {s : State} (h : s.lineDE = false) (k : Nat) : s.lineTx k = true := by
  unfold State.lineTx
  split
  next f hf =>
    exact if_neg fun hp => by
      rw [s.lineDE_iff.mpr ⟨f, hf, hp⟩] at h
      cases h
  next => rfl

/-- While a frame is sent the pin follows its levels. -/
theorem State.lineTx_of_sending {s : State} {f : Frame} {k : Nat} {level : Bool} (hf : s.frame = some f)
    (hp : f.phase = .sending) (hlevel : (frameLevels f.bytes)[k]? = some level) : s.lineTx k = level := by
  simp only [State.lineTx, hf, hp, hlevel]
  rfl

/-- The lowest bits of a number spell it modulo a power of two. -/
theorem foldr_testBit (n : Nat) : ∀ x : Nat,
    ((List.range n).map x.testBit).foldr (fun b m => 2 * m + b.toNat) 0 = x % 2 ^ n := by
  induction n with
  | zero => intro x; simp [Nat.mod_one]
  | succ n ih =>
    intro x
    have hshift : x.testBit ∘ Nat.succ = (x / 2).testBit := funext fun k => Nat.testBit_succ x k
    rw [List.range_succ_eq_map, List.map_cons, List.map_map, hshift, List.foldr_cons, ih, Nat.testBit_zero, Nat.pow_succ',
      Nat.mod_mul]
    rcases Nat.mod_two_eq_zero_or_one x with h | h <;> simp only [h] <;> simp [Nat.add_comm]

/-- The receiver takes back the byte whose bits it samples. -/
theorem byteOfBits_getLsbD (b : Byte) : byteOfBits ((List.range 8).map fun k => b.getLsbD k) = b := by
  have hbits : (List.range 8).map (fun k => b.getLsbD k) = (List.range 8).map b.toNat.testBit := rfl
  rw [byteOfBits, hbits, foldr_testBit, Nat.mod_eq_of_lt b.isLt, BitVec.ofNat_toNat, BitVec.setWidth_eq]

theorem BitRate.idleClocks_eq (r : BitRate) : r.idleClocks = 30 * r.bitClocks := by
  cases r <;> rfl

theorem BitRate.gapClocks_eq (r : BitRate) : r.gapClocks = 40 * r.bitClocks := by
  cases r <;> rfl

/-- Bytes that stand near one another all join the burst of those after them. -/
theorem burstsOf_append {limit : Nat} {c : TimedByte} {rest : List TimedByte} (hc : c.idle < limit) {bs : List TimedByte} :
    ∀ {b : TimedByte}, (∀ d ∈ bs, d.idle < limit) → ∀ {burst : List RxByte} {more : List (List RxByte)},
      burstsOf limit (c :: rest) = burst :: more →
      burstsOf limit (b :: bs ++ c :: rest) = ((b :: bs).map TimedByte.byte ++ burst) :: more := by
  induction bs with
  | nil =>
    intro b _ burst more hburst
    simp [burstsOf, hc, hburst]
  | cons d bs ih =>
    intro b hnear burst more hburst
    have htail := ih (b := d) (fun x hx => hnear x (List.mem_cons_of_mem _ hx)) hburst
    simp only [List.cons_append] at htail ⊢
    simp [burstsOf, hnear d List.mem_cons_self, htail]

/-- Every run of bytes begins a burst with its first byte. -/
theorem burstsOf_cons (limit : Nat) (c : TimedByte) (rest : List TimedByte) :
    ∃ tail more, burstsOf limit (c :: rest) = (c.byte :: tail) :: more := by
  cases rest with
  | nil => exact ⟨[], [], rfl⟩
  | cons d rest =>
    rw [burstsOf]
    split
    · split
      · exact ⟨[], [], rfl⟩
      · exact ⟨_, _, rfl⟩
    · exact ⟨[], _, rfl⟩

theorem burstsOf_near {limit : Nat} {bs : List TimedByte} : ∀ {b : TimedByte}, (∀ d ∈ bs, d.idle < limit) →
    burstsOf limit (b :: bs) = [(b :: bs).map TimedByte.byte] := by
  induction bs with
  | nil => intro b _; rfl
  | cons d bs ih =>
    intro b hnear
    have htail := ih (b := d) fun x hx => hnear x (List.mem_cons_of_mem _ hx)
    simp [burstsOf, hnear d List.mem_cons_self, htail]

/-- A long idle ends the burst before it. -/
theorem burstsOf_far {limit : Nat} {c : TimedByte} {rest : List TimedByte} (hc : ¬ c.idle < limit) {bs : List TimedByte} :
    ∀ {b : TimedByte}, burstsOf limit (b :: bs ++ c :: rest) = burstsOf limit (b :: bs) ++ burstsOf limit (c :: rest) := by
  induction bs with
  | nil =>
    intro b
    simp [burstsOf, hc]
  | cons d bs ih =>
    intro b
    obtain ⟨tail, more, hburst⟩ := burstsOf_cons limit d bs
    have htail := ih (b := d)
    rw [hburst] at htail
    simp only [List.cons_append] at htail ⊢
    by_cases hd : d.idle < limit <;> simp [burstsOf, hd, htail, hburst]

/-- With no room left, one more byte ends the frame too long and begins the next. -/
theorem groupBytes_full {bs : List RxByte} : ∀ {room : Nat} {acc : List RxByte} {c : RxByte} {rest : List RxByte},
    bs.length = room → groupBytes room acc (bs ++ c :: rest) =
      { bytes := acc.reverse ++ bs, tooLong := true } :: framesOfBurst (c :: rest) := by
  induction bs with
  | nil =>
    intro room acc c rest hlen
    cases hlen
    simp [groupBytes, framesOfBurst, maxFrameBytes]
  | cons b bs ih =>
    intro room acc c rest hlen
    cases hlen
    rw [List.cons_append, List.length_cons, groupBytes, ih rfl]
    simp

theorem receivedFrames_near {r : BitRate} {b : TimedByte} {bs : List TimedByte} (hnear : ∀ c ∈ bs, c.idle < r.idleClocks)
    (hlen : bs.length < 72) :
    receivedFrames r (b :: bs) = [{ bytes := (b :: bs).map TimedByte.byte, tooLong := false }] := by
  rw [receivedFrames, burstsOf_near hnear, List.flatMap_singleton, framesOfBurst,
    groupBytes_short _ _ _ (by simp [maxFrameBytes]; omega) (by simp)]
  rfl

theorem receivedFrames_tooLong {r : BitRate} {b c : TimedByte} {bs rest : List TimedByte}
    (hnear : ∀ c ∈ bs, c.idle < r.idleClocks) (hlen : bs.length = 71) (hc : c.idle < r.idleClocks) :
    receivedFrames r (b :: bs ++ c :: rest) =
      { bytes := (b :: bs).map TimedByte.byte, tooLong := true } :: receivedFrames r (c :: rest) := by
  obtain ⟨tail, more, hburst⟩ := burstsOf_cons r.idleClocks c rest
  rw [receivedFrames, receivedFrames, burstsOf_append hc hnear hburst, hburst, List.flatMap_cons, List.flatMap_cons]
  have hfull : framesOfBurst ((b :: bs).map TimedByte.byte ++ c.byte :: tail) =
      { bytes := (b :: bs).map TimedByte.byte, tooLong := true } :: framesOfBurst (c.byte :: tail) :=
    groupBytes_full (acc := []) (by simp [maxFrameBytes, hlen])
  rw [hfull, List.cons_append]

theorem receivedFrames_far {r : BitRate} {b c : TimedByte} {bs rest : List TimedByte} (hc : ¬ c.idle < r.idleClocks) :
    receivedFrames r (b :: bs ++ c :: rest) = receivedFrames r (b :: bs) ++ receivedFrames r (c :: rest) := by
  rw [receivedFrames, burstsOf_far hc, List.flatMap_append]
  rfl

/-- Settles O5: the sending side by the place of each level, the receiving side by the bursts of its bytes. -/
theorem lineLevelsAndReceivedFrames : Obligations.LineLevelsAndReceivedFrames := by
  refine ⟨fun bytes => ⟨length_frameLevels bytes, fun k j b hb hj => ?_⟩, fun s => ⟨s.lineDE_iff, ?_, ?_⟩,
    fun b stop => ?_, ⟨rfl, rfl⟩, ⟨rfl, fun r => ⟨r.idleClocks_eq, r.gapClocks_eq, fun bytes => ?_⟩⟩, fun r b bs => ?_⟩
  · rw [frameLevels_getElem? hj hb, lineBits_getElem? hj]
  · exact fun h k => State.lineTx_eq_true_of_lineDE_false h k
  · exact fun f k level hf hp hlevel => State.lineTx_of_sending hf hp hlevel
  · rw [sampleByte, byteOfBits_getLsbD]
  · rw [BitRate.sendClocks, length_frameLevels]
  · rw [← r.idleClocks_eq]
    exact ⟨receivedFrames_near, fun c rest => receivedFrames_tooLong, fun c rest hc => receivedFrames_far (by omega)⟩

end Sys2Proof.Machine

/-! From a received frame to the row of the table it is (R48, R50, R54 to R57, R59). -/

namespace Sys2Proof.Machine

/-! ## What a received frame is taken as -/

theorem RxFrame.byteAt_eq (x : RxFrame) (k : Nat) : x.byteAt k = (x.values[k]?).getD 0 := by
  rw [RxFrame.byteAt, RxFrame.values, List.getElem?_map]

theorem toNat_routeByte (st : StationId) : (routeByte st true).toNat = st.val + 1 + 16 := by
  have := st.isLt
  simp only [routeByte, if_true, BitVec.toNat_ofNat]
  omega

theorem RxFrame.garbled_iff (x : RxFrame) (st : StationId) : x.garbled st = true ↔
    x.bytes.length < 8 ∨ (∃ b ∈ x.bytes, b.framingError = true) ∨ x.byteAt 0 ≠ 0xB4 ∨
      (x.byteAt 1).toNat ≠ st.val + 1 + 16 ∨ 64 < x.payloadLength ∨ x.bytes.length ≠ 8 + x.payloadLength ∨
      x.tooLong = true ∨ x.byteAt (6 + x.payloadLength) ≠ (crc16 x.body).extractLsb' 0 8 ∨
      x.byteAt (7 + x.payloadLength) ≠ (crc16 x.body).extractLsb' 8 8 := by
  have hroute : x.byteAt 1 ≠ routeByte st true ↔ (x.byteAt 1).toNat ≠ st.val + 1 + 16 := by
    rw [← toNat_routeByte, Ne, Ne, BitVec.toNat_inj]
  have hcrc : lowFirst (crc16 x.body) ≠ [x.byteAt (6 + x.payloadLength), x.byteAt (7 + x.payloadLength)] ↔
      x.byteAt (6 + x.payloadLength) ≠ (crc16 x.body).extractLsb' 0 8 ∨
        x.byteAt (7 + x.payloadLength) ≠ (crc16 x.body).extractLsb' 8 8 := by
    simp only [lowFirst, ne_eq, List.cons.injEq, and_true, not_and_or, eq_comm]
  simp only [RxFrame.garbled, Bool.or_eq_true, decide_eq_true_eq, List.any_eq_true, hroute, hcrc, or_assoc]
  rfl

/-- The kind code that spells a reply (R54). -/
def Reply.code : Reply → Nat
  | .present _ => 1
  | .accept => 2
  | .refuse _ => 3
  | .taken => 4
  | .give _ => 5
  | .result _ => 6
  | .wait => 7
  | .park => 8
  | .nothing => 9
  | .ready _ => 10
  | .done => 11

theorem RxFrame.reply_code {x : RxFrame} {r : Reply} (h : x.reply = some r) : (x.byteAt 2).toNat = r.code := by
  unfold RxFrame.reply at h
  split at h <;> cases h <;> assumption

/-- The kind codes that R55 allows in reply to each controller frame. -/
def FrameKind.replyCodes : FrameKind → List Nat
  | .sync => [1]
  | .openReq => [2, 3, 7]
  | .send => [4, 7, 8]
  | .pull => [5, 7, 8]
  | .finish => [6, 7, 8]
  | .poll => [9, 10]
  | .abort => [11]

theorem FrameKind.allows_iff_code (k : FrameKind) (r : Reply) : k.allows r = true ↔ r.code ∈ k.replyCodes := by
  cases k <;> cases r <;> simp [FrameKind.allows, FrameKind.replyCodes, Reply.code]

theorem Reply.echoesTag_iff (r : Reply) : r.echoesTag = true ↔ r.code ∈ [2, 3, 4, 5, 6, 7, 8, 11] := by
  cases r <;> simp [Reply.echoesTag, Reply.code]

theorem Reply.mayCarryPayload_iff (r : Reply) : r.mayCarryPayload = true ↔ r.code = 5 := by
  cases r <;> simp [Reply.mayCarryPayload, Reply.code]

theorem RxFrame.fieldsFit_iff (x : RxFrame) (f : Frame) (r : Reply) : x.fieldsFit f r = true ↔
    (x.byteAt 3).getLsbD 7 = false ∧ (r.echoesTag = true → x.tag = slotNumber f.slot ∧ x.index = f.index) ∧
      (r.mayCarryPayload = true ∨ x.payloadLength = 0) := by
  simp only [RxFrame.fieldsFit, Bool.and_eq_true, Bool.or_eq_true, Bool.not_eq_true', decide_eq_true_eq, and_assoc]
  cases r.echoesTag <;> simp

theorem slotNumber_eq_getD (i : Option SlotId) : slotNumber i = (i.map fun k => k.val).getD 0 := by
  cases i <;> rfl

theorem State.commandOfFrame_of_none {s : State} (h : s.frame = none) (x : RxFrame) : s.commandOfFrame x = .lateReply := by
  simp only [State.commandOfFrame, h]

theorem State.commandOfFrame_of_garbled {s : State} {f : Frame} {x : RxFrame} (hf : s.frame = some f)
    (hp : f.phase = .receiving) (hx : x.garbled f.station = true) : s.commandOfFrame x = .garbledReply := by
  simp only [State.commandOfFrame, hf, hp, hx]
  rfl

/-- A well-formed frame is the reply it spells, when that is valid, else a violation (R57). -/
theorem State.commandOfFrame_of_spelt {s : State} {f : Frame} {x : RxFrame} {r : Reply} (hf : s.frame = some f)
    (hp : f.phase = .receiving) (hx : ¬ x.garbled f.station = true) (hr : x.reply = some r) :
    s.commandOfFrame x = if s.replyValid f r && x.fieldsFit f r then r.command else .violationReply := by
  simp only [State.commandOfFrame, hf, hp, hx, hr]
  rfl

theorem State.commandOfFrame_of_unspelt {s : State} {f : Frame} {x : RxFrame} (hf : s.frame = some f)
    (hp : f.phase = .receiving) (hx : ¬ x.garbled f.station = true) (hr : x.reply = none) :
    s.commandOfFrame x = .violationReply := by
  simp only [State.commandOfFrame, hf, hp, hx, hr]
  rfl

theorem Reply.command_ne_garbledReply (r : Reply) : r.command ≠ .garbledReply := by
  cases r <;> exact nofun

/-- Settles O7: R56 check by check, then checks 1 to 4 of R57 by the kind code. -/
theorem wrongFramesAreNotTaken : Obligations.WrongFramesAreNotTaken := by
  intro s x
  refine ⟨fun h => State.commandOfFrame_of_none h x, fun f hf hp => ?_⟩
  intro v n wrong tag allowed
  have hv : ∀ k, v k = x.byteAt k := fun k => (x.byteAt_eq k).symm
  have hn : n = x.payloadLength := congrArg BitVec.toNat (hv 5)
  have hwrong : x.garbled f.station = true ↔ wrong := by
    simp only [wrong, hv, hn]
    exact x.garbled_iff f.station
  have hallowed : allowed = f.kind.replyCodes := by
    show (match f.kind with | _ => _) = _
    cases f.kind <;> rfl
  refine ⟨fun h => State.commandOfFrame_of_garbled hf hp (hwrong.mpr h), fun h => ?_⟩
  have hwell : ¬ x.garbled f.station = true := fun hx => h (hwrong.mp hx)
  cases hr : x.reply with
  | none =>
    rw [State.commandOfFrame_of_unspelt hf hp hwell hr]
    exact ⟨nofun, fun _ => rfl⟩
  | some r =>
    rw [State.commandOfFrame_of_spelt hf hp hwell hr]
    refine ⟨?_, fun hbad => if_neg ?_⟩
    · split
      · exact r.command_ne_garbledReply
      · exact nofun
    · rw [State.replyValid, Bool.and_eq_true, Bool.and_eq_true, FrameKind.allows_iff_code, RxFrame.fieldsFit_iff,
        Reply.mayCarryPayload_iff, Reply.echoesTag_iff, ← RxFrame.reply_code hr]
      rintro ⟨⟨hcode, -⟩, hbit, hecho, hpay⟩
      simp only [hv, hn, hallowed] at hbad
      rcases hbad with hbad | hbad | ⟨hin, hbad⟩ | ⟨hfive, hbad⟩
      · exact hbad hcode
      · rw [hbit] at hbad
        cases hbad
      · obtain ⟨htag, hindex⟩ := hecho hin
        rcases hbad with hbad | hbad
        · exact hbad (htag.trans (slotNumber_eq_getD f.slot))
        · exact hbad hindex
      · exact hpay.elim hfive hbad

/-! ## The frame a station sends -/

section StationFrame

variable {st : StationId} {kindCode : Byte} {tag index : Nat} {argument : Byte} {payload : List Byte}

theorem values_stationFrame : (stationFrame st kindCode tag index argument payload).values =
    frameBytes (frameBody (routeByte st true) kindCode tag index argument payload) := by
  rw [RxFrame.values, stationFrame, List.map_map]
  exact List.map_id _

/-- The six bytes before the payload. -/
theorem byteAt_stationFrame (k : Nat) (hk : k < 6) : (stationFrame st kindCode tag index argument payload).byteAt k =
    ([opener, routeByte st true, kindCode, BitVec.ofNat 8 (tag + 16 * index), argument,
      BitVec.ofNat 8 payload.length][k]?).getD 0 := by
  rw [RxFrame.byteAt_eq, values_stationFrame]
  have hfront : frameBytes (frameBody (routeByte st true) kindCode tag index argument payload) =
      [opener, routeByte st true, kindCode, BitVec.ofNat 8 (tag + 16 * index), argument, BitVec.ofNat 8 payload.length] ++
        (payload ++ lowFirst (crc16 (frameBody (routeByte st true) kindCode tag index argument payload))) := by
    simp [frameBytes, frameBody]
  rw [hfront, List.getElem?_append_left hk]

theorem length_stationFrame : (stationFrame st kindCode tag index argument payload).bytes.length = 8 + payload.length := by
  have hlength := congrArg List.length
    (values_stationFrame (st := st) (kindCode := kindCode) (tag := tag) (index := index) (argument := argument)
      (payload := payload))
  rw [RxFrame.values, List.length_map] at hlength
  rw [hlength]
  simp [frameBytes, frameBody, lowFirst]
  omega

theorem payloadLength_stationFrame (h : payload.length ≤ 64) :
    (stationFrame st kindCode tag index argument payload).payloadLength = payload.length := by
  rw [RxFrame.payloadLength, byteAt_stationFrame 5 (by omega)]
  exact Nat.mod_eq_of_lt (by omega)

theorem payload_stationFrame (h : payload.length ≤ 64) :
    (stationFrame st kindCode tag index argument payload).payload = payload := by
  rw [RxFrame.payload, payloadLength_stationFrame h, values_stationFrame]
  simp [frameBytes, frameBody]

theorem body_stationFrame (h : payload.length ≤ 64) : (stationFrame st kindCode tag index argument payload).body =
    frameBody (routeByte st true) kindCode tag index argument payload := by
  rw [RxFrame.body, payloadLength_stationFrame h, values_stationFrame]
  have hlength : (frameBody (routeByte st true) kindCode tag index argument payload).length = 5 + payload.length := by
    simp [frameBody]
    omega
  rw [frameBytes, List.cons_append, List.drop_succ_cons, List.drop_zero, ← hlength, List.take_left]

/-- The two bytes after the payload are the CRC. -/
theorem crcAt_stationFrame (k : Nat) : (stationFrame st kindCode tag index argument payload).byteAt (6 + payload.length + k) =
    ((lowFirst (crc16 (frameBody (routeByte st true) kindCode tag index argument payload)))[k]?).getD 0 := by
  have hlength : (opener :: frameBody (routeByte st true) kindCode tag index argument payload).length = 6 + payload.length := by
    simp [frameBody]
    omega
  rw [RxFrame.byteAt_eq, values_stationFrame, frameBytes, ← hlength, List.getElem?_append_right (by omega),
    Nat.add_sub_cancel_left]

theorem toNat_tagIndex (htag : tag < 16) (hindex : index < 8) :
    ((stationFrame st kindCode tag index argument payload).byteAt 3).toNat = tag + 16 * index := by
  rw [byteAt_stationFrame 3 (by omega)]
  exact Nat.mod_eq_of_lt (by omega)

/-- The frame of a station passes every check of R56. -/
theorem stationFrame_not_garbled (h : payload.length ≤ 64) :
    ¬ (stationFrame st kindCode tag index argument payload).garbled st = true := by
  rw [RxFrame.garbled_iff, length_stationFrame, payloadLength_stationFrame h, body_stationFrame h,
    show 7 + payload.length = 6 + payload.length + 1 by omega, ← toNat_routeByte]
  have hlow := crcAt_stationFrame (st := st) (kindCode := kindCode) (tag := tag) (index := index) (argument := argument)
    (payload := payload) 0
  have hhigh := crcAt_stationFrame (st := st) (kindCode := kindCode) (tag := tag) (index := index) (argument := argument)
    (payload := payload) 1
  rintro (hbad | ⟨b, hb, hbad⟩ | hbad | hbad | hbad | hbad | hbad | hbad | hbad)
  · omega
  · obtain ⟨v, -, rfl⟩ := List.mem_map.mp hb
    cases hbad
  · exact hbad (byteAt_stationFrame 0 (by omega))
  · exact hbad (congrArg BitVec.toNat (byteAt_stationFrame 1 (by omega)))
  · omega
  · exact hbad rfl
  · cases hbad
  · exact hbad hlow
  · exact hbad hhigh

/-- The fields fit where the tag and index are echoed and a payload is carried by a GIVE alone. -/
theorem stationFrame_fieldsFit {f : Frame} {r : Reply} (htag : tag < 16) (hindex : index < 8) (h : payload.length ≤ 64)
    (hecho : r.echoesTag = true → tag = slotNumber f.slot ∧ index = f.index)
    (hpay : r.mayCarryPayload = true ∨ payload = []) :
    (stationFrame st kindCode tag index argument payload).fieldsFit f r = true := by
  rw [RxFrame.fieldsFit_iff, payloadLength_stationFrame h, RxFrame.tag, RxFrame.index, toNat_tagIndex htag hindex]
  refine ⟨?_, fun hr => ?_, hpay.imp_right (fun he => by rw [he]; rfl)⟩
  · rw [BitVec.getLsbD, toNat_tagIndex htag hindex]
    exact Nat.testBit_eq_false_of_lt (by omega)
  · obtain ⟨ht, hi⟩ := hecho hr
    rw [← ht, ← hi]
    omega

end StationFrame

/-- Settles O6: the frame passes R56, spells the reply, and meets checks 2 to 4 of R57; the validity is left. -/
theorem stationFrameIsClassified : Obligations.StationFrameIsClassified := by
  intro s f st r kindCode argument tag index payload hf hp hst htag hindex hlen echoes hrow
  subst hst
  have hspelt : (stationFrame f.station kindCode tag index argument payload).reply = some r ∧
      (r.echoesTag = true → echoes) ∧ (r.mayCarryPayload = true ∨ payload = []) := by
    rw [RxFrame.reply, byteAt_stationFrame 2 (by omega), RxFrame.argument, byteAt_stationFrame 4 (by omega),
      payload_stationFrame hlen, RxFrame.tag, toNat_tagIndex htag hindex, show (tag + 16 * index) % 16 = tag by omega]
    rcases hrow with ⟨rfl, rfl, he⟩ | ⟨rfl, rfl, he, hq⟩ | ⟨rfl, rfl, he, hq⟩ | ⟨rfl, rfl, he, hq⟩ | ⟨rfl, rfl, hq⟩ |
      ⟨rfl, rfl, he, hq⟩ | ⟨rfl, rfl, he, hq⟩ | ⟨rfl, rfl, he, hq⟩ | ⟨rfl, rfl, he⟩ | ⟨rfl, ⟨i, rfl, rfl⟩, he⟩ |
      ⟨rfl, rfl, he, hq⟩
    case inr.inr.inr.inr.inl => exact ⟨rfl, fun _ => hq, .inl rfl⟩
    case inr.inr.inr.inr.inr.inr.inr.inr.inr.inl =>
      exact ⟨congrArg (some ∘ Reply.ready) (Fin.ext (Nat.mod_eq_of_lt i.isLt)), nofun, .inr he⟩
    case inl | inr.inr.inr.inr.inr.inr.inr.inr.inl => exact ⟨rfl, nofun, .inr he⟩
    all_goals exact ⟨rfl, fun _ => hq, .inr he⟩
  obtain ⟨hreply, hecho, hpay⟩ := hspelt
  rw [State.commandOfFrame_of_spelt hf hp (stationFrame_not_garbled hlen) hreply, stationFrame_fieldsFit htag hindex hlen
    (fun hr => ?_) hpay, Bool.and_true]
  obtain ⟨ht, hi⟩ := hecho hr
  exact ⟨ht.trans (slotNumber_eq_getD f.slot).symm, hi⟩

end Sys2Proof.Machine

/-! Every command as a run of stages of the slots, the stations and the line, after the report it may begin with. -/

namespace Sys2Proof.Machine

/-! ## States that differ aside from the slots' standing -/

/-- What a slot's frame in flight is aimed at: it does not change while the frame is in flight. -/
def Frame.target (f : Frame) : FrameKind × StationId × Option SlotId × Nat := (f.kind, f.station, f.slot, f.index)

/-- A slot record whose standing at its station has not changed, or which has none before and after. -/
inductive Slot.Alike (x y : Slot) : Prop
  | kept (state : y.state = x.state) (cls : y.desc.cls = x.desc.cls) (station : y.desc.stationId = x.desc.stationId)
      (ready : y.ready = x.ready) (inFlight : y.inFlight = x.inFlight)
      (offer : x.inFlight = true → y.nextFrame = x.nextFrame)
  | idle (before : x.state.isActive = false) (after : y.state.isActive = false) (ready : y.ready = true → x.ready = true)
      (inFlight : y.inFlight = true → x.inFlight = true)

/-- A station record that holds the same slots; outside ONLINE its backoff timer has not started, and its poll timer may have run
out. -/
structure Station.Alike (r q : Station) : Prop where
  state : q.state = r.state
  engaged : q.engaged = r.engaged
  parked : q.parked = r.parked
  parkDepth : q.parkDepth = r.parkDepth
  backoff : q.state ≠ .online → r.backoff = none → q.backoff = none
  pollTimer : q.pollTimer = r.pollTimer ∨ (r.pollTimer.isRunning = true ∧ q.pollTimer = .expired)

/-- From `s` to `t` no slot and no station has changed its standing, and the line is as good as before. -/
structure Aside (s t : State) : Prop where
  slots : ∀ i, (s.slot i).Alike (t.slot i)
  stations : ∀ v, (s.station v).Alike (t.station v)
  urgent : t.urgent = s.urgent
  normal : t.normal = s.normal
  frame : t.frame.map Frame.target = s.frame.map Frame.target
  link : t.link = s.link ∨ t.link.isUp = true
  line : s.lineFits → t.lineFits

/-- One stage of a command after its report. -/
inductive Stage : State → State → Prop
  /-- Nothing that bears on slots, stations or the line. -/
  | aside {s t : State} (h : Aside s t) : Stage s t
  /-- A POST that queues its slot at a station in service (R16). -/
  | enqueue (s : State) (i : SlotId) (h : (s.slot i).state = .claimed)
      (hp : postRefusal (s.slot i) s.freeList.length = none) (v : StationId) (hv : (s.slot i).desc.stationId = some v)
      (hst : (s.station v).state = .probing ∨ (s.station v).state = .online ∨ (s.station v).state = .withdrawing) :
      Stage s (s.enqueueSlot i)
  /-- The completion step (R19). -/
  | complete (s : State) (i : SlotId) (r : Result) : Stage s (s.complete i r)
  /-- A stop that takes a slot with no frame in flight to ABORTING (R144). -/
  | abort (s : State) (i : SlotId) (k : StopKind) (h : (s.slot i).state.canStop = true) (hf : (s.slot i).inFlight = false) :
      Stage s (s.enterAborting i k.ending)
  /-- ENABLE_STATION (R66). -/
  | enable (s : State) (v : StationId)
      (h : (s.station v).state = .disabled ∨ (s.station v).state = .absent ∨ (s.station v).state = .faulty) :
      Stage s (s.modStation v Station.enable)
  /-- DISABLE_STATION of a station that is not ONLINE (R67). -/
  | disable (s : State) (v : StationId)
      (h : (s.station v).state = .probing ∨ (s.station v).state = .absent ∨ (s.station v).state = .faulty) :
      Stage s (s.disableAtOnce v)
  /-- DISABLE_STATION of an ONLINE station (R70). -/
  | withdraw (s : State) (v : StationId) (h : (s.station v).state = .online) : Stage s (s.startWithdrawal v)
  /-- The stop or loss step (R178). -/
  | linkDown (s : State) (target : LinkState) {o : Ending} (ho : o ≠ .ok ∧ o ≠ .stationError ∧ o ≠ .refused) :
      Stage s (s.linkDown target o)
  /-- The scheduler's part (R80, R81). -/
  | dispatch (s : State) : Stage s s.dispatch
  /-- Either reset (R186, R196). -/
  | reset {s t : State} (slots : t.slots = State.reset.slots) (stations : t.stations = State.reset.stations)
      (urgent : t.urgent = []) (normal : t.normal = []) (frame : t.frame = none) (link : t.link = .off)
      (receiver : t.receiver = .waiting) : Stage s t

/-- A run of stages. -/
abbrev Stages : State → State → Prop := Relation.ReflTransGen Stage

/-- A property that every stage keeps is kept by a run of them. -/
theorem Stages.preserves {I : State → Prop} (stage : ∀ s t, Stage s t → I s → I t) {s t : State} (h : Stages s t)
    (hs : I s) : I t := by
  induction h with
  | refl => exact hs
  | tail _ hc ih => exact stage _ _ hc ih

/-! ## Changes aside -/

theorem Slot.Alike.refl (x : Slot) : x.Alike x := .kept rfl rfl rfl rfl rfl fun _ => rfl

theorem Station.Alike.refl (r : Station) : r.Alike r := ⟨rfl, rfl, rfl, rfl, fun _ => id, .inl rfl⟩

/-- Two states with the same slots, stations, lists, link and line. -/
structure SameBoard (s t : State) : Prop where
  slots : t.slots = s.slots
  stations : t.stations = s.stations
  urgent : t.urgent = s.urgent
  normal : t.normal = s.normal
  link : t.link = s.link
  frame : t.frame = s.frame
  gapPassed : t.gapPassed = s.gapPassed
  receiver : t.receiver = s.receiver

theorem SameBoard.slot {s t : State} (h : SameBoard s t) (i : SlotId) : t.slot i = s.slot i := by
  rw [State.slot, State.slot, h.slots]

theorem SameBoard.station {s t : State} (h : SameBoard s t) (v : StationId) : t.station v = s.station v := by
  rw [State.station, State.station, h.stations]

theorem State.lineFits_congr {s t : State} (hf : t.frame = s.frame) (hg : t.gapPassed = s.gapPassed)
    (hr : t.receiver = s.receiver) (h : s.lineFits) : t.lineFits := by
  unfold State.lineFits
  rw [hf, hg, hr]
  exact h

theorem SameBoard.aside {s t : State} (h : SameBoard s t) : Aside s t where
  slots i := h.slot i ▸ .refl _
  stations v := h.station v ▸ .refl _
  urgent := h.urgent
  normal := h.normal
  frame := by rw [h.frame]
  link := .inl h.link
  line := State.lineFits_congr h.frame h.gapPassed h.receiver

theorem Aside.stages {s t : State} (h : Aside s t) : Stages s t := .single (.aside h)

theorem SameBoard.stages {s t : State} (h : SameBoard s t) : Stages s t := h.aside.stages

/-- The link passes to a state with frames; nothing else. -/
theorem stages_of_linkUp {s t : State} (slots : t.slots = s.slots) (stations : t.stations = s.stations)
    (urgent : t.urgent = s.urgent) (normal : t.normal = s.normal) (frame : t.frame = s.frame)
    (gapPassed : t.gapPassed = s.gapPassed) (receiver : t.receiver = s.receiver) (link : t.link.isUp = true) :
    Stages s t := by
  have hslot : ∀ i, t.slot i = s.slot i := fun i => by rw [State.slot, State.slot, slots]
  have hstation : ∀ v, t.station v = s.station v := fun v => by rw [State.station, State.station, stations]
  exact Aside.stages {
    slots := fun i => hslot i ▸ .refl _
    stations := fun v => hstation v ▸ .refl _
    urgent := urgent
    normal := normal
    frame := by rw [frame]
    link := .inr link
    line := State.lineFits_congr frame gapPassed receiver }

/-- A slot record gives way to one alike, and the slots' lists, the stations and the line are as before. -/
theorem stages_of_slot {s t : State} {i : SlotId} (h : (s.slot i).Alike (t.slot i))
    (hne : ∀ j, j ≠ i → t.slot j = s.slot j) (stations : t.stations = s.stations) (urgent : t.urgent = s.urgent)
    (normal : t.normal = s.normal) (link : t.link = s.link) (frame : t.frame = s.frame)
    (gapPassed : t.gapPassed = s.gapPassed) (receiver : t.receiver = s.receiver) : Stages s t := by
  have hstation : ∀ v, t.station v = s.station v := fun v => by rw [State.station, State.station, stations]
  refine Aside.stages {
    slots := fun j => ?_
    stations := fun v => hstation v ▸ .refl _
    urgent := urgent
    normal := normal
    frame := by rw [frame]
    link := .inl link
    line := State.lineFits_congr frame gapPassed receiver }
  by_cases hj : j = i
  · exact hj ▸ h
  · exact hne j hj ▸ .refl _

theorem stages_modSlot (s : State) (i : SlotId) {f : Slot → Slot} (h : (s.slot i).Alike (f (s.slot i))) :
    Stages s (s.modSlot i f) :=
  stages_of_slot (i := i) (by rw [State.slot_modSlot_self]; exact h) (fun j hj => State.slot_modSlot_ne s i j f hj) rfl rfl
    rfl rfl rfl rfl rfl

/-- A station record gives way to one alike. -/
theorem stages_modStation (s : State) (v : StationId) {g : Station → Station} (h : (s.station v).Alike (g (s.station v))) :
    Stages s (s.modStation v g) := by
  refine Aside.stages {
    slots := fun i => .refl _
    stations := fun u => ?_
    urgent := rfl
    normal := rfl
    frame := rfl
    link := .inl rfl
    line := State.lineFits_congr rfl rfl rfl }
  rw [State.station_modStation]
  split
  · next hu => exact hu ▸ h
  · exact .refl _

/-- The line alone changes: the frame in flight is aimed at the same slot and station. -/
theorem stages_of_line {s t : State} (slots : t.slots = s.slots) (stations : t.stations = s.stations)
    (urgent : t.urgent = s.urgent) (normal : t.normal = s.normal) (link : t.link = s.link)
    (frame : t.frame.map Frame.target = s.frame.map Frame.target) (line : s.lineFits → t.lineFits) : Stages s t := by
  have hslot : ∀ i, t.slot i = s.slot i := fun i => by rw [State.slot, State.slot, slots]
  have hstation : ∀ v, t.station v = s.station v := fun v => by rw [State.station, State.station, stations]
  exact Aside.stages {
    slots := fun i => hslot i ▸ .refl _
    stations := fun v => hstation v ▸ .refl _
    urgent := urgent
    normal := normal
    frame := frame
    link := .inl link
    line := line }

theorem sameBoard_answer (s : State) (c : Status) : SameBoard s (s.answer c) := ⟨rfl, rfl, rfl, rfl, rfl, rfl, rfl, rfl⟩

theorem sameBoard_flagStatus (s : State) (c : Status) : SameBoard s (s.flagStatus c) :=
  ⟨rfl, rfl, rfl, rfl, rfl, rfl, rfl, rfl⟩

theorem sameBoard_coalesce (s : State) : SameBoard s s.coalesce := by
  unfold State.coalesce
  split
  · exact ⟨rfl, rfl, rfl, rfl, rfl, rfl, rfl, rfl⟩
  · split <;> exact ⟨rfl, rfl, rfl, rfl, rfl, rfl, rfl, rfl⟩

theorem sameBoard_announceSince (s before : State) : SameBoard s (s.announceSince before) := by
  unfold State.announceSince
  split
  · exact sameBoard_coalesce s
  · exact ⟨rfl, rfl, rfl, rfl, rfl, rfl, rfl, rfl⟩

theorem sameBoard_thresholdWritten (s : State) : SameBoard s s.thresholdWritten := by
  unfold State.thresholdWritten
  split <;> exact ⟨rfl, rfl, rfl, rfl, rfl, rfl, rfl, rfl⟩

theorem stages_enterRunningIfProbed (s : State) : Stages s s.enterRunningIfProbed := by
  unfold State.enterRunningIfProbed
  split
  · exact stages_of_linkUp rfl rfl rfl rfl rfl rfl rfl rfl
  · exact .refl

theorem stages_enterStarting (s : State) : Stages s s.enterStarting := by
  refine .trans ?_ (stages_enterRunningIfProbed _)
  exact stages_of_linkUp rfl rfl rfl rfl rfl rfl rfl rfl

/-! ## Stops, the report and the receiver -/

theorem stages_stopAtOnce {s : State} {i : SlotId} (k : StopKind) (h : (s.slot i).inFlight = false) :
    Stages s (s.stopAtOnce i k) := by
  unfold State.stopAtOnce
  split
  next hs _ => exact .single (.complete s i _)
  next hs _ => exact .single (.abort s i k (by rw [hs]; rfl) h)
  next hs => exact .single (.abort s i k (by rw [hs]; rfl) h)
  next hs => exact .single (.abort s i k (by rw [hs]; rfl) h)
  all_goals exact .refl

theorem stages_takeStop (s : State) (i : SlotId) (k : StopKind) : Stages s (s.takeStop i k) := by
  unfold State.takeStop
  split
  · exact stages_modSlot s i (.kept rfl rfl rfl rfl rfl fun _ => rfl)
  · next h => exact stages_stopAtOnce k (Bool.eq_false_iff.mpr h)

theorem stages_reportLink (s : State) (kind : FrameKind) (o : FrameOutcome) : Stages s (s.reportLink kind o) := by
  unfold State.reportLink
  split
  · exact .single (.linkDown s _ (by simp))
  · split
    · exact .single (.linkDown s _ (by simp))
    · split
      · exact stages_enterRunningIfProbed s
      · exact .refl

theorem stages_report (s : State) (f : Frame) (gap : Bool) (o : FrameOutcome) :
    Stages (s.told f gap o) (s.report f gap o) := by
  rw [State.report_eq]
  exact (stages_reportLink _ _ _).trans (sameBoard_announceSince _ s).stages

/-- The receiver's stop bit of a first byte leaves the gap to pass again. -/
theorem stages_firstByteReceived (s : State) : Stages s s.firstByteReceived := by
  refine stages_of_line ?_ ?_ ?_ ?_ ?_ ?_ fun h => ?_
  case refine_7 =>
    unfold State.firstByteReceived
    cases hr : s.receiver with
    | waiting => exact h
    | frameOpen => exact h
    | firstByte =>
      refine ⟨fun _ => rfl, fun f hf => ?_⟩
      obtain ⟨-, hrec, haw⟩ := h.2 f hf
      exact ⟨fun _ => rfl, hrec.trans (by simp [hr]), haw⟩
  all_goals
    unfold State.firstByteReceived
    split <;> rfl

/-- A start bit while no frame is in flight, or in RECEIVING. -/
theorem stages_startByte {s : State} (h : ∀ f ∈ s.frame, f.phase = .receiving) : Stages s s.startByte := by
  unfold State.startByte
  split
  next hr =>
    refine stages_of_line rfl rfl rfl rfl rfl rfl fun hl => ⟨nofun, fun f hf => ?_⟩
    exact absurd hr ((hl.2 f hf).2.1.mp (h f hf))
  next => exact stages_firstByteReceived s
  next => exact .refl

/-- A command's run: its stages from the state it is taken in, or from the state after the report of the frame in flight. -/
def Runs (s t : State) : Prop :=
  Stages s t ∨ ∃ f gap o, s.frame = some f ∧ s.outcomeFits f o ∧ Stages (s.told f gap o) t

theorem Runs.trans {s t u : State} (h : Runs s t) (k : Stages t u) : Runs s u := by
  rcases h with h | ⟨f, gap, o, hf, ho, h⟩
  · exact .inl (h.trans k)
  · exact .inr ⟨f, gap, o, hf, ho, h.trans k⟩

theorem runs_report {s : State} {f : Frame} (hf : s.frame = some f) (gap : Bool) {o : FrameOutcome}
    (ho : s.outcomeFits f o) : Runs s (s.report f gap o) :=
  .inr ⟨f, gap, o, hf, ho, stages_report s f gap o⟩

theorem stages_countLate {s : State} (h : ∀ f ∈ s.frame, f.phase = .sending) : Stages s s.countLate := by
  refine stages_of_line rfl rfl rfl rfl rfl rfl fun hl => ⟨nofun, fun f hf => ?_⟩
  obtain ⟨-, -, haw⟩ := hl.2 f hf
  refine ⟨fun _ => rfl, ?_, haw⟩
  rw [h f hf]
  simp [State.countLate]

theorem runs_takeReceived {s : State} {o : Frame → FrameOutcome} (h : ∀ f, s.outcomeFits f (o f)) :
    Runs s (s.takeReceived o) := by
  unfold State.takeReceived
  split
  next hf => exact .inl (stages_countLate fun f hm => by rw [hf] at hm; cases hm)
  next f hf =>
    split
    · exact runs_report hf false (h f)
    · exact .inl .refl
    · exact .inl .refl

theorem runs_takeReply {s : State} {r : Reply} (h : ∀ p, r = .give p → p.length ≤ Config.segmentBytes) :
    Runs s (s.takeReply r) := by
  refine runs_takeReceived fun f v hv => ?_
  split at hv
  · next hvalid =>
    obtain ⟨ha, hfit⟩ := Bool.and_eq_true_iff.mp hvalid
    cases hv
    exact ⟨ha, hfit, h⟩
  · cases hv

end Sys2Proof.Machine

/-! Every command as a run of stages. -/

namespace Sys2Proof.Machine

/-! ## The commands that concern slots -/

theorem stages_withSlot {s : State} {op : Byte} {rule : SlotId → State} (h : ∀ i, Stages s (rule i)) :
    Stages s (s.withSlot op rule) := by
  unfold State.withSlot
  split
  · exact h _
  · exact (sameBoard_answer s _).stages

theorem stages_withStation {s : State} {op : Byte} {rule : StationId → State} (h : ∀ v, Stages s (rule v)) :
    Stages s (s.withStation op rule) := by
  unfold State.withStation
  split
  · exact h _
  · exact (sameBoard_answer s _).stages

theorem stages_answer_dispatch {s t : State} (c : Status) (h : Stages s t) : Stages s (t.answer c).dispatch :=
  h.trans ((sameBoard_answer t c).stages.tail (.dispatch _))

theorem stages_execClaim {s t : State} (h : execClaim s = .next t) : Stages s t := by
  unfold execClaim at h
  split at h
  next i hi =>
    cases h
    have hfree : (s.slot i).state = .free := by simpa using List.find?_some hi
    refine (stages_modSlot s i (f := fun x => { x with state := .claimed, desc := Descriptor.claimed })
      (.idle (by rw [hfree]; rfl) rfl id id)).trans (SameBoard.stages ⟨rfl, rfl, rfl, rfl, rfl, rfl, rfl, rfl⟩)
  next =>
    cases h
    exact (sameBoard_answer s _).stages

theorem stages_execSelect {s t : State} {op : Byte} (h : execSelect op s = .next t) : Stages s t := by
  cases h
  refine stages_withSlot fun i => .trans ?_ ((stages_modSlot _ i (f := fun x => { x with readCursor := 0 })
    (.kept rfl rfl rfl rfl rfl fun _ => rfl)).trans (sameBoard_answer _ _).stages)
  exact SameBoard.stages ⟨rfl, rfl, rfl, rfl, rfl, rfl, rfl, rfl⟩

theorem SlotState.not_isActive_of_claimed {x : SlotState} (h : x = .claimed) : x.isActive = false := by rw [h]; rfl

theorem stages_postToStation {s : State} {i : SlotId} (h : (s.slot i).state = .claimed)
    (hp : postRefusal (s.slot i) s.freeList.length = none) : Stages s (s.postToStation i) := by
  have hatOnce : ∀ o, Stages s
      ((((s.modSlot i fun x => x.startProgress).complete i { outcome := o }).announceSince s).answer .done) := fun o =>
    ((stages_modSlot s i (f := fun x => x.startProgress)
      (.idle (SlotState.not_isActive_of_claimed h) (SlotState.not_isActive_of_claimed h) nofun nofun)).tail
        (.complete _ i _)).trans ((sameBoard_announceSince _ s).stages.trans (sameBoard_answer _ _).stages)
  have hqueued : ∀ v, (s.slot i).desc.stationId = some v →
      ((s.station v).state = .probing ∨ (s.station v).state = .online ∨ (s.station v).state = .withdrawing) →
      Stages s ((s.enqueueSlot i).answer .done).dispatch := fun v hv hst =>
    stages_answer_dispatch _ (.single (.enqueue s i h hp v hv hst))
  unfold State.postToStation State.stationStateOf
  dsimp only
  cases hv : (s.slot i).desc.stationId with
  | none => exact (sameBoard_answer s _).stages
  | some v =>
    dsimp only [Option.map_some]
    cases hst : (s.station v).state with
    | disabled => exact (sameBoard_answer s _).stages
    | absent => exact hatOnce _
    | faulty => exact hatOnce _
    | probing => exact hqueued v hv (.inl hst)
    | online => exact hqueued v hv (.inr (.inl hst))
    | withdrawing => exact hqueued v hv (.inr (.inr hst))

theorem stages_execPost {s t : State} {op : Byte} (h : execPost op s = .next t) : Stages s t := by
  cases h
  refine stages_withSlot fun i => ?_
  split
  next hs =>
    split
    · exact (sameBoard_answer s _).stages
    next hp => exact stages_postToStation hs hp
  next => exact (sameBoard_answer s _).stages

/-- A slot with no place in a list or at a station becomes FREE. -/
theorem stages_freeSlot {s : State} {i : SlotId} (h : (s.slot i).state.isActive = false) : Stages s (s.freeSlot i) := by
  refine stages_of_slot (i := i) ?_ (fun j hj => ?_) ?_ ?_ ?_ ?_ ?_ ?_ ?_
  · rw [State.slot_freeSlot, if_pos rfl]
    exact .idle h rfl nofun nofun
  · rw [State.slot_freeSlot, if_neg hj]
  all_goals exact State.freeSlot_eq s i ▸ rfl

theorem stages_execDrop {s t : State} {op : Byte} (h : execDrop op s = .next t) : Stages s t := by
  cases h
  refine stages_withSlot fun i => ?_
  split
  next hs => exact (stages_freeSlot (by rw [hs]; rfl)).trans (sameBoard_answer _ _).stages
  next => exact (sameBoard_answer s _).stages

theorem stages_execRelease {s t : State} {op : Byte} (h : execRelease op s = .next t) : Stages s t := by
  cases h
  refine stages_withSlot fun i => ?_
  split
  next hs => exact (stages_freeSlot (by rw [hs]; rfl)).trans (sameBoard_answer _ _).stages
  next => exact (sameBoard_answer s _).stages

theorem stages_execCancel {s t : State} {op : Byte} (h : execCancel op s = .next t) : Stages s t := by
  cases h
  refine stages_withSlot fun i => ?_
  split
  next => exact stages_answer_dispatch _ ((stages_takeStop s i _).trans (sameBoard_announceSince _ s).stages)
  next => exact (sameBoard_answer s _).stages

theorem Slot.alike_popped (x : Slot) :
    x.Alike { x with state := if x.state = .complete then .settled else x.state } := by
  by_cases h : x.state = .complete
  · rw [if_pos h]
    exact .idle (by rw [h]; rfl) rfl id id
  · rw [if_neg h]
    exact .refl x

theorem stages_execPop {s t : State} (h : execPop s = .next t) : Stages s t := by
  unfold execPop at h
  split at h
  next =>
    cases h
    exact (sameBoard_answer s _).stages
  next head rest hq =>
    cases h
    refine .trans (b := s.popHead head rest) ?_ (SameBoard.stages ⟨rfl, rfl, rfl, rfl, rfl, rfl, rfl, rfl⟩)
    refine stages_of_slot (i := head.slot) ?_ (fun j hj => ?_) rfl rfl rfl rfl rfl rfl rfl
    · rw [State.slot_popHead, if_pos rfl]
      exact Slot.alike_popped _
    · rw [State.slot_popHead, if_neg hj]

theorem stages_execLifetimeExpiry {s t : State} {i : SlotId} (h : execLifetimeExpiry i s = .next t) : Stages s t := by
  have hstop : Stages s (s.modSlot i fun x => { x with lifetimeTimer := none }) :=
    stages_modSlot s i (.kept rfl rfl rfl rfl rfl fun _ => rfl)
  unfold execLifetimeExpiry at h
  dsimp only at h
  split at h
  · split at h <;> cases h
    · exact (hstop.trans ((stages_takeStop _ i _).trans (sameBoard_announceSince _ s).stages)).tail (.dispatch _)
    · exact hstop
  · cases h
    exact .refl

/-! ## The commands that concern stations and the link -/

theorem stages_execEnableStation {s t : State} {op : Byte} (h : execEnableStation op s = .next t) : Stages s t := by
  cases h
  refine stages_withStation fun v => ?_
  dsimp only
  split
  next hs => exact stages_answer_dispatch _ (.single (.enable s v (.inl hs)))
  next hs => exact stages_answer_dispatch _ (.single (.enable s v (.inr (.inl hs))))
  next hs => exact stages_answer_dispatch _ (.single (.enable s v (.inr (.inr hs))))
  all_goals exact (sameBoard_answer s _).stages

theorem stages_execDisableStation {s t : State} {op : Byte} (h : execDisableStation op s = .next t) : Stages s t := by
  cases h
  refine stages_withStation fun v => ?_
  have hatOnce : ((s.station v).state = .probing ∨ (s.station v).state = .absent ∨ (s.station v).state = .faulty) →
      Stages s ((s.disableAtOnce v).announceSince s) := fun hs =>
    (Relation.ReflTransGen.single (.disable s v hs)).trans (sameBoard_announceSince _ s).stages
  dsimp only
  split
  next hs => exact stages_answer_dispatch _ ((hatOnce (.inl hs)).trans (stages_enterRunningIfProbed _))
  next hs => exact stages_answer_dispatch _ (hatOnce (.inr (.inl hs)))
  next hs => exact stages_answer_dispatch _ (hatOnce (.inr (.inr hs)))
  next hs =>
    exact stages_answer_dispatch _ ((Relation.ReflTransGen.single (.withdraw s v hs)).trans (sameBoard_announceSince _ s).stages)
  all_goals exact (sameBoard_answer s _).stages

theorem stages_execLinkStart {s t : State} (h : execLinkStart s = .next t) : Stages s t := by
  unfold execLinkStart at h
  split at h <;> cases h
  · exact stages_answer_dispatch _ (stages_enterStarting s)
  · exact (sameBoard_answer s _).stages

theorem stages_execLinkResume {s t : State} (h : execLinkResume s = .next t) : Stages s t := by
  unfold execLinkResume at h
  split at h <;> cases h
  · exact stages_answer_dispatch _ (stages_enterStarting s)
  · exact (sameBoard_answer s _).stages

theorem stages_linkStopped (s : State) : Stages s s.linkStopped := .single (.linkDown s _ (by simp))

theorem stages_stopLink (s : State) : Stages s s.stopLink := by
  unfold State.stopLink
  split
  · exact (stages_linkStopped s).trans (sameBoard_announceSince _ s).stages
  · exact stages_of_linkUp rfl rfl rfl rfl rfl rfl rfl rfl

theorem stages_execLinkStop {s t : State} (h : execLinkStop s = .next t) : Stages s t := by
  unfold execLinkStop at h
  split at h <;> cases h
  case h_1 | h_2 => exact (stages_stopLink s).trans (sameBoard_answer _ _).stages
  case h_3 =>
    exact (stages_linkStopped s).trans ((sameBoard_announceSince _ s).stages.trans (sameBoard_answer _ _).stages)
  all_goals exact (sameBoard_answer s _).stages

theorem stages_execLineFaultAsserted {s t : State} (h : execLineFaultAsserted s = .next t) : Stages s t := by
  have hfault : Stages s { s with lineFault := true } := SameBoard.stages ⟨rfl, rfl, rfl, rfl, rfl, rfl, rfl, rfl⟩
  unfold execLineFaultAsserted at h
  split at h <;> cases h
  · exact (hfault.tail (.linkDown _ _ (by simp))).trans (sameBoard_announceSince _ s).stages
  · exact hfault

theorem stages_execBackoffExpiry {s t : State} {a : BitVec 4} (h : execBackoffExpiry a s = .next t) : Stages s t := by
  unfold execBackoffExpiry at h
  split at h
  · split at h <;> cases h
    · exact (stages_modStation s _ ⟨rfl, rfl, rfl, rfl, fun _ _ => rfl, .inl rfl⟩).tail (.dispatch _)
    · exact .refl
  · cases h

theorem stages_execPollTimerExpiry {s t : State} {a : BitVec 4} (h : execPollTimerExpiry a s = .next t) : Stages s t := by
  unfold execPollTimerExpiry at h
  split at h
  · split at h <;> cases h
    next hrun => exact (stages_modStation s _ ⟨rfl, rfl, rfl, rfl, fun _ => id, .inr ⟨hrun, rfl⟩⟩).tail (.dispatch _)
    · exact .refl
  · cases h

theorem stages_execCauseWrite (s : State) (w : Word) : Stages s (s.clearCauses w) := by
  refine Aside.stages {
    slots := fun i => .refl _
    stations := fun v => ?_
    urgent := rfl
    normal := rfl
    frame := rfl
    link := .inl rfl
    line := State.lineFits_congr rfl rfl rfl }
  have hstation : (s.clearCauses w).station v =
      { s.station v with changed := (s.station v).changed && !(w.getLsbD 1 || w.getLsbD (8 + v.val)) } := by
    simp [State.clearCauses, State.clearChangeFlags, State.station]
  rw [hstation]
  exact ⟨rfl, rfl, rfl, rfl, fun _ => id, .inl rfl⟩

/-! ## The data window -/

theorem stages_setFillError (s : State) (i : SlotId) :
    Stages s ((s.modSlot i fun x => { x with fillError := true }).flagStatus .fillError) :=
  (stages_modSlot s i (f := fun x => { x with fillError := true }) (.kept rfl rfl rfl rfl rfl fun _ => rfl)).trans
    (sameBoard_flagStatus _ _).stages

theorem stages_execDescriptorWrite {s t : State} {reg : DescReg} {data : Word}
    (h : execDescriptorWrite reg data s = .next t) : Stages s t := by
  unfold execDescriptorWrite at h
  split at h <;> cases h
  next hs =>
    exact stages_modSlot s _ (.idle (SlotState.not_isActive_of_claimed hs) (SlotState.not_isActive_of_claimed hs) id id)
  next => exact (sameBoard_flagStatus s _).stages

theorem stages_execLengthWrite {s t : State} {data : Word} (h : execLengthWrite data s = .next t) : Stages s t := by
  unfold execLengthWrite at h
  split at h
  next hs =>
    split at h <;> cases h
    · exact stages_modSlot s _ (.idle (SlotState.not_isActive_of_claimed hs) (SlotState.not_isActive_of_claimed hs) id id)
    · exact stages_setFillError s _
  next =>
    cases h
    exact (sameBoard_flagStatus s _).stages

theorem stages_storeFill {s : State} {i : SlotId} (h : (s.slot i).state = .claimed)
    (hd : fillDropped (s.slot i) s.freeList = false) (data : Word) : Stages s (s.storeFill i data) := by
  have hle := Slot.fillBlocks_le_of_not_dropped hd
  refine stages_of_slot (i := i) ?_ (fun j hj => ?_) ?_ ?_ ?_ ?_ ?_ ?_ ?_
  · rw [State.slot_storeFill hle, if_pos rfl]
    exact .idle (SlotState.not_isActive_of_claimed h) (SlotState.not_isActive_of_claimed h) id id
  · rw [State.slot_storeFill hle, if_neg hj]
  all_goals exact State.storeFill_eq hle data ▸ rfl

theorem stages_execDataWindowWrite {s t : State} {data : Word} (h : execDataWindowWrite data s = .next t) :
    Stages s t := by
  unfold execDataWindowWrite at h
  dsimp only at h
  split at h
  next hs =>
    split at h <;> cases h
    · exact stages_setFillError s _
    next hd => exact stages_storeFill hs.1 (Bool.eq_false_iff.mpr hd) data
  next =>
    cases h
    exact (sameBoard_flagStatus s _).stages

theorem stages_execDataWindowRead {s t : State} (h : execDataWindowRead s = .next t) : Stages s t := by
  have hread : Stages s { s with readData := s.dwinWord } := SameBoard.stages ⟨rfl, rfl, rfl, rfl, rfl, rfl, rfl, rfl⟩
  unfold execDataWindowRead at h
  dsimp only at h
  split at h <;> cases h
  · exact hread.trans (stages_modSlot _ _ (.kept rfl rfl rfl rfl rfl fun _ => rfl))
  · exact hread

/-! ## The line -/

theorem stages_execInterFrameGapEnd {s t : State} (h : execInterFrameGapEnd s = .next t) : Stages s t := by
  unfold execInterFrameGapEnd at h
  split at h <;> cases h
  next hend =>
    obtain ⟨hsending, hopen⟩ := s.gapMayEnd_iff.mp hend
    refine .tail (b := { s with gapPassed := true }) ?_ (.dispatch _)
    refine stages_of_line rfl rfl rfl rfl rfl rfl fun hl => ⟨fun hr => absurd hr hopen, fun f hf => ?_⟩
    exact ⟨fun hp => absurd hp (hsending f hf), (hl.2 f hf).2⟩
  next => exact .refl

theorem stages_execFrameSent {s t : State} (h : execFrameSent s = .next t) : Stages s t := by
  unfold execFrameSent at h
  split at h
  next f hf =>
    split at h <;> cases h
    next hp =>
      refine stages_of_line rfl rfl rfl rfl rfl (by rw [hf]; rfl) fun hl => ⟨hl.1, fun g hg => ?_⟩
      obtain ⟨-, hrec, -⟩ := hl.2 f hf
      cases hg
      rw [hp] at hrec
      exact ⟨nofun, ⟨nofun, fun hr => absurd (hrec.mpr hr) nofun⟩, by simp⟩
    next => exact .refl
  next =>
    cases h
    exact .refl

theorem stages_execReplyBegins {s t : State} (h : execReplyBegins s = .next t) : Stages s t := by
  unfold execReplyBegins at h
  split at h
  next hf =>
    cases h
    exact stages_startByte fun f hm => by rw [hf] at hm; cases hm
  next f hf =>
    split at h <;> cases h
    · exact .refl
    · refine stages_of_line rfl rfl rfl rfl rfl (by rw [hf]; rfl) fun _ => ⟨nofun, fun g hg => ?_⟩
      cases hg
      exact ⟨nofun, by simp, by simp⟩
    next hp =>
      refine stages_startByte fun g hm => ?_
      rw [hf] at hm
      cases hm
      exact hp

theorem runs_execReplyTimeout {s t : State} (h : execReplyTimeout s = .next t) : Runs s t := by
  unfold execReplyTimeout at h
  split at h
  next f hf =>
    split at h <;> cases h
    · exact (runs_report hf _ (s.outcomeFits_failed f (by simp))).trans (.single (.dispatch _))
    · exact .inl .refl
  next =>
    cases h
    exact .inl .refl

theorem stages_execLateReply {s t : State} (h : execLateReply s = .next t) : Stages s t := by
  unfold execLateReply at h
  split at h
  next hf =>
    cases h
    exact stages_countLate fun f hm => by rw [hf] at hm; cases hm
  next f hf =>
    split at h <;> cases h
    next hp =>
      refine stages_countLate fun g hm => ?_
      rw [hf] at hm
      cases hm
      exact hp
    next => exact .refl

theorem runs_execGive {s t : State} {payload : List Byte} (h : execGive payload s = .next t) : Runs s t := by
  unfold execGive at h
  split at h <;> cases h
  next hs =>
    refine runs_takeReply fun p hp => ?_
    cases hp
    exact hs
  next => exact runs_takeReceived fun f => s.outcomeFits_failed f (by simp)

theorem stages_execHoldoffExpiry {s t : State} (h : execHoldoffExpiry s = .next t) : Stages s t := by
  unfold execHoldoffExpiry at h
  split at h
  · split at h <;> cases h <;> exact SameBoard.stages ⟨rfl, rfl, rfl, rfl, rfl, rfl, rfl, rfl⟩
  · cases h
    exact .refl

/-- Every command is a run of stages, after the report of the frame in flight where it ends that frame. -/
theorem runs_exec {s t : State} (c : Instr) (h : exec c s = .next t) : Runs s t := by
  have hnot : ∀ {r : Reply}, (∀ p, r ≠ .give p) → Runs s (s.takeReply r) := fun hr =>
    runs_takeReply fun p hp => absurd hp (hr p)
  cases c with
  | powerOnReset => cases h; exact .inl (.single (.reset rfl rfl rfl rfl rfl rfl rfl))
  | softReset => cases h; exact .inl (.single (.reset rfl rfl rfl rfl rfl rfl rfl))
  | claim => exact .inl (stages_execClaim h)
  | select op => exact .inl (stages_execSelect h)
  | post op => exact .inl (stages_execPost h)
  | drop op => exact .inl (stages_execDrop h)
  | cancel op => exact .inl (stages_execCancel h)
  | pop => exact .inl (stages_execPop h)
  | release op => exact .inl (stages_execRelease h)
  | enableStation op => exact .inl (stages_execEnableStation h)
  | disableStation op => exact .inl (stages_execDisableStation h)
  | linkStart => exact .inl (stages_execLinkStart h)
  | linkStop => exact .inl (stages_execLinkStop h)
  | linkResume => exact .inl (stages_execLinkResume h)
  | snapshot | snapshotClear | maskWrite _ | cfg0Write _ | lineFaultNegated =>
    cases h
    exact .inl (SameBoard.stages ⟨rfl, rfl, rfl, rfl, rfl, rfl, rfl, rfl⟩)
  | causeWrite data => cases h; exact .inl (stages_execCauseWrite s data)
  | cfg1Write data =>
    cases h
    refine .inl (.trans (SameBoard.stages ?_) (sameBoard_thresholdWritten _).stages)
    exact ⟨rfl, rfl, rfl, rfl, rfl, rfl, rfl, rfl⟩
  | unknownCommand code =>
    simp only [exec, execUnknownCommand] at h
    split at h <;> cases h
    exact .inl (sameBoard_answer s _).stages
  | ignoredWrite w d =>
    simp only [exec, execIgnoredWrite] at h
    split at h <;> cases h
    exact .inl .refl
  | descriptorWrite reg data => exact .inl (stages_execDescriptorWrite h)
  | lengthWrite data => exact .inl (stages_execLengthWrite h)
  | dataWindowWrite data => exact .inl (stages_execDataWindowWrite h)
  | dataWindowRead => exact .inl (stages_execDataWindowRead h)
  | lineFaultAsserted => exact .inl (stages_execLineFaultAsserted h)
  | interFrameGapEnd => exact .inl (stages_execInterFrameGapEnd h)
  | frameSent => exact .inl (stages_execFrameSent h)
  | replyTimeout => exact runs_execReplyTimeout h
  | lateReply => exact .inl (stages_execLateReply h)
  | garbledReply | violationReply =>
    cases h
    exact runs_takeReceived fun f => s.outcomeFits_failed f (by simp)
  | give payload => exact runs_execGive h
  | present _ | accept | refuse _ | taken | result _ | wait | park | nothing | ready _ | done =>
    cases h
    exact hnot (by simp)
  | holdoffExpiry => exact .inl (stages_execHoldoffExpiry h)
  | backoffExpiry a => exact .inl (stages_execBackoffExpiry h)
  | pollTimerExpiry a => exact .inl (stages_execPollTimerExpiry h)
  | lifetimeExpiry i => exact .inl (stages_execLifetimeExpiry h)
  | replyBegins => exact .inl (stages_execReplyBegins h)

/-- A step is the end of a first byte on an empty queue, or its front command's run on the state with the queue's rest. -/
theorem step_runs {s t : State} (h : step s = .next t) : ∃ u, SameBoard s u ∧ Runs u t := by
  rcases step_cases h with ⟨-, rfl⟩ | ⟨c, rest, -, hexec⟩
  · exact ⟨s, ⟨rfl, rfl, rfl, rfl, rfl, rfl, rfl, rfl⟩, .inl (stages_firstByteReceived s)⟩
  · exact ⟨{ s with pending := rest }, ⟨rfl, rfl, rfl, rfl, rfl, rfl, rfl, rfl⟩, runs_exec c hexec⟩

end Sys2Proof.Machine

/-! The line and a link that is down, stage by stage (R42, R46, R47, R52, R53, R178). -/

namespace Sys2Proof.Machine

/-! ## What a stage does to the lists and the line -/

theorem Slot.Alike.listCount {x y : Slot} (h : x.Alike y) (c : Cls) : y.listCount c = x.listCount c := by
  cases h with
  | kept hstate hcls => rw [Slot.listCount, Slot.listCount, hstate, hcls]
  | idle hx hy => rw [Slot.listCount_of_inactive hx, Slot.listCount_of_inactive hy]

/-- The dispatch lists match the slots after a run of changes of the tables. -/
theorem Changes.listsMatch {s t : State} (h : Changes False s t) (hs : s.listsMatch) : t.listsMatch :=
  h.preserves (fun _ _ hc => hc.keeps_listsMatch) hs

theorem Stage.keeps_listsMatch {s t : State} (h : Stage s t) (hs : s.listsMatch) : t.listsMatch := by
  cases h with
  | aside h =>
    intro i
    rw [h.urgent, h.normal, (h.slots i).listCount, (h.slots i).listCount]
    exact hs i
  | enqueue i h hp => exact Changes.listsMatch (.single (.enqueue s i h hp)) hs
  | complete i r => exact State.listsMatch_complete i r hs
  | abort i k h => exact (changes_enterAborting k.ending_isPending h).listsMatch hs
  | enable v => exact (sameTables_modStation s v _).changes.listsMatch hs
  | disable v => exact (changes_disableAtOnce s v).listsMatch hs
  | withdraw v => exact (changes_startWithdrawal nofun).listsMatch hs
  | linkDown target ho => exact (changes_linkDown s target ho).listsMatch hs
  | dispatch => exact (changes_dispatch s).listsMatch hs
  | reset slots _ urgent normal =>
    intro i
    have hslot : t.slot i = Slot.empty := by rw [State.slot, slots]; exact State.slot_reset i
    rw [urgent, normal, hslot]
    exact ⟨rfl, rfl⟩

theorem ReportScope.keeps_lineFits {s t : State} (h : ReportScope s t) (hs : s.lineFits) : t.lineFits :=
  State.lineFits_congr h.frame (by rw [h.rest]) (by rw [h.rest]) hs

theorem State.lineFits_of_no_frame {s : State} (hf : s.frame = none) (hr : s.receiver ≠ .frameOpen) : s.lineFits :=
  ⟨fun h => absurd h hr, fun f hm => by rw [hf] at hm; cases hm⟩

/-- A frame that enters SENDING finds the receiver cut off and the gap to pass again. -/
theorem State.lineFits_beginFrame (s : State) {f : Frame} (hp : f.phase = .sending) (ht : f.replyTimer = none) :
    (s.beginFrame f).lineFits := by
  refine ⟨nofun, fun g hg => ?_⟩
  cases hg
  rw [hp, ht]
  exact ⟨fun _ => rfl, by simp [State.beginFrame], by simp⟩

theorem State.lineFits_sendSlotFrame (s : State) (i : SlotId) (h : s.lineFits) : (s.sendSlotFrame i).lineFits := by
  unfold State.sendSlotFrame
  dsimp only
  split
  · exact State.lineFits_beginFrame _ rfl rfl
  · exact h

theorem State.lineFits_dispatch {s : State} (h : s.lineFits) : s.dispatch.lineFits := by
  unfold State.dispatch
  split
  · split
    next c _ =>
      cases c with
      | slotFrame i => exact s.lineFits_sendSlotFrame i h
      | resume i =>
        refine State.lineFits_sendSlotFrame _ i ?_
        unfold State.resumeSlot
        split
        · rw [State.leaveParked_eq]
          exact h
        · exact h
      | sync v => exact State.lineFits_beginFrame _ rfl rfl
      | poll v => exact State.lineFits_beginFrame _ rfl rfl
    next => exact h
  · exact h

theorem State.lineFits_linkDown {s : State} (h : s.lineFits) (target : LinkState) (o : Ending) :
    (s.linkDown target o).lineFits := by
  rw [State.linkDown_only]
  cases hf : s.frame with
  | none =>
    rw [State.abandonFrame_of_none hf]
    exact State.lineFits_congr rfl rfl rfl h
  | some f =>
    refine State.lineFits_of_no_frame (by rw [State.abandonFrame_eq]) ?_
    show s.abandonFrame.receiver ≠ _
    rw [(State.abandonFrame_line hf).2]
    split <;> nofun

theorem Stage.keeps_lineFits {s t : State} (h : Stage s t) (hs : s.lineFits) : t.lineFits := by
  cases h with
  | aside h => exact h.line hs
  | enqueue i h hp =>
    rw [State.enqueueSlot_eq (Slot.reservation_le_of_postRefusal hp)]
    exact State.lineFits_congr rfl rfl rfl hs
  | complete i r => exact (reportScope_complete s i r).keeps_lineFits hs
  | abort i k => exact (reportScope_enterAborting s i _).keeps_lineFits hs
  | enable v => exact (reportScope_modStation s v _).keeps_lineFits hs
  | disable v => exact (reportScope_disableAtOnce s v).keeps_lineFits hs
  | withdraw v => exact (reportScope_startWithdrawal s v).keeps_lineFits hs
  | linkDown target => exact s.lineFits_linkDown hs target _
  | dispatch => exact s.lineFits_dispatch hs
  | reset _ _ _ _ frame _ receiver => exact State.lineFits_of_no_frame frame (by rw [receiver]; nofun)

/-! ## What the report does to the line and the link -/

theorem State.endFrame_line (s : State) (f : Frame) (gap : Bool) :
    (s.endFrame f gap).frame = none ∧ (s.endFrame f gap).receiver = .waiting ∧ (s.endFrame f gap).link = s.link := by
  unfold State.endFrame
  dsimp only
  split <;> exact ⟨rfl, rfl, rfl⟩

/-- The tables leave the link and the line as the end of the frame left them. -/
theorem reportScope_counted (s : State) (f : Frame) (gap : Bool) (o : FrameOutcome) :
    ReportScope (s.endFrame f gap) ((s.counted f gap o).reportTables f (s.slotTaking f) o) :=
  ReportScope.trans (t := s.counted f gap o) ⟨rfl, List.prefix_rfl⟩ (reportScope_reportTables _ f _ o)

theorem State.told_frame (s : State) (f : Frame) (gap : Bool) (o : FrameOutcome) :
    (s.told f gap o).frame = none ∧ (s.told f gap o).receiver = .waiting ∧ (s.told f gap o).link = s.link := by
  have h := reportScope_counted s f gap o
  obtain ⟨hf, hr, hl⟩ := s.endFrame_line f gap
  refine ⟨h.frame.trans hf, ?_, h.link.trans hl⟩
  rw [← hr]
  show ((s.counted f gap o).reportTables f (s.slotTaking f) o).receiver = _
  rw [h.rest]

theorem Stages.keeps_lineFits {s t : State} (h : Stages s t) (hs : s.lineFits) : t.lineFits :=
  h.preserves (fun _ _ hc => hc.keeps_lineFits) hs

theorem Runs.keeps_lineFits {s t : State} (h : Runs s t) (hs : s.lineFits) : t.lineFits := by
  rcases h with h | ⟨f, gap, o, -, -, h⟩
  · exact h.keeps_lineFits hs
  · obtain ⟨hf, hr, -⟩ := s.told_frame f gap o
    exact h.keeps_lineFits (State.lineFits_of_no_frame hf (by rw [hr]; nofun))

/-! ## A link that is down (R52, R178) -/

/-- From `s` to `t` no frame has begun, no station has gone ONLINE or WITHDRAWING and no slot has become OPEN or PARKED. -/
structure Calmer (s t : State) : Prop where
  link : t.link = s.link
  frame : s.frame = none → t.frame = none
  station : ∀ v, (t.station v).state = .online ∨ (t.station v).state = .withdrawing → (t.station v).state = (s.station v).state
  slot : ∀ i, (t.slot i).state = .opened ∨ (t.slot i).state = .parked → (t.slot i).state = (s.slot i).state

theorem Calmer.trans {s t u : State} (h : Calmer s t) (k : Calmer t u) : Calmer s u where
  link := k.link.trans h.link
  frame hs := k.frame (h.frame hs)
  station v hv := by
    have ht := k.station v hv
    exact ht.trans (h.station v (ht ▸ hv))
  slot i hi := by
    have ht := k.slot i hi
    exact ht.trans (h.slot i (ht ▸ hi))

theorem Calmer.keeps_linkDownQuiet {s t : State} (h : Calmer s t) (hs : s.linkDownQuiet) : t.linkDownQuiet := by
  intro hdown
  rw [h.link] at hdown
  obtain ⟨hframe, hstations, hslots⟩ := hs hdown
  refine ⟨h.frame hframe, fun v => ⟨fun hv => ?_, fun hv => ?_⟩, fun i => ⟨fun hi => ?_, fun hi => ?_⟩⟩
  · exact (hstations v).1 ((h.station v (.inl hv)).symm.trans hv)
  · exact (hstations v).2 ((h.station v (.inr hv)).symm.trans hv)
  · exact (hslots i).1 ((h.slot i (.inl hi)).symm.trans hi)
  · exact (hslots i).2 ((h.slot i (.inr hi)).symm.trans hi)

theorem calmer_complete (s : State) (i : SlotId) (r : Result) : Calmer s (s.complete i r) where
  link := (reportScope_complete s i r).link
  frame h := (reportScope_complete s i r).frame.trans h
  station v _ := by rw [(released_complete s i r v).rest]
  slot j hj := by
    by_cases hc : (s.slot i).state.canComplete = true
    · rw [State.slot_complete hc] at hj ⊢
      split at hj
      · exact absurd hj nofun
      · next hne => rw [if_neg hne]
    · rw [State.complete, if_neg hc]

theorem calmer_completeAll (ids : List SlotId) (o : Ending) (s : State) : Calmer s (s.completeAll ids o) := by
  induction ids generalizing s with
  | nil => exact ⟨rfl, id, fun _ _ => rfl, fun _ _ => rfl⟩
  | cons i ids ih => exact (calmer_complete s i _).trans (ih _)

theorem calmer_modStation (s : State) (v : StationId) {g : Station → Station}
    (h : (g (s.station v)).state ≠ .online ∧ (g (s.station v)).state ≠ .withdrawing) : Calmer s (s.modStation v g) where
  link := rfl
  frame := id
  slot _ _ := rfl
  station u hu := by
    rw [State.station_modStation] at hu ⊢
    split at hu
    · exact absurd hu (not_or.mpr h)
    · next hne => rw [if_neg hne]

/-- Entry to ABORTING leaves every other slot record as it is. -/
theorem State.slot_enterAborting (s : State) (i : SlotId) (o : Ending) (j : SlotId) :
    (s.enterAborting i o).slot j = if j = i then (s.slot i).toAborting o else s.slot j := by
  rw [← State.slot_modSlot s i j (fun x => x.toAborting o)]
  unfold State.enterAborting
  dsimp only
  split
  · rw [State.leaveParked_eq]
    rfl
  · rfl

theorem released_enterAborting (s : State) (i : SlotId) (o : Ending) (v : StationId) :
    (s.station v).state = ((s.enterAborting i o).station v).state := by
  unfold State.enterAborting
  dsimp only
  split
  next st _ =>
    rw [State.leaveParked_eq, State.station_modStation]
    split
    · next hv =>
      subst hv
      unfold Station.unpark
      split <;> rfl
    · rfl
  · rfl

theorem calmer_enterAborting (s : State) (i : SlotId) (o : Ending) : Calmer s (s.enterAborting i o) where
  link := (reportScope_enterAborting s i o).link
  frame h := (reportScope_enterAborting s i o).frame.trans h
  station v _ := (released_enterAborting s i o v).symm
  slot j hj := by
    rw [State.slot_enterAborting] at hj ⊢
    split at hj
    · exact absurd hj nofun
    · next hne => rw [if_neg hne]

/-- With the link neither STARTING nor RUNNING the scheduler chooses nothing. -/
theorem State.dispatch_of_link {s : State} (h : s.link.isUp = false) : s.dispatch = s := by
  have hnone : s.choose = none := by
    unfold State.choose
    split <;> simp_all [LinkState.isUp]
  rw [State.dispatch, hnone, ite_self]

theorem Station.linkDown_state (r : Station) : r.linkDown.state ≠ .online ∧ r.linkDown.state ≠ .withdrawing := by
  obtain ⟨honline, hprobing, hwithdrawing, hother⟩ := r.linkDown_cases
  cases hr : r.state with
  | online => rw [honline hr]; exact ⟨nofun, nofun⟩
  | probing => rw [hprobing hr]; exact ⟨by rw [hr]; nofun, by rw [hr]; nofun⟩
  | withdrawing => rw [hwithdrawing hr]; exact ⟨nofun, nofun⟩
  | absent | faulty | disabled =>
    unfold Station.linkDown
    rw [hr]
    exact ⟨by rw [hr]; nofun, by rw [hr]; nofun⟩

theorem State.station_linkDown_eq (s : State) (target : LinkState) (o : Ending) (v : StationId) :
    (s.linkDown target o).station v =
      ((s.abandonFrame.completeEach (s.linkOrder o) (s.linkResult o)).station v).linkDown := by
  rw [State.linkDown_eq]
  exact State.station_mapStations ..

/-- The stop or loss step leaves no frame in flight, no station ONLINE or WITHDRAWING and no slot OPEN or PARKED. -/
theorem State.linkDown_grounded {s : State} (hlists : s.listsMatch) (target : LinkState) (o : Ending) :
    (s.linkDown target o).frame = none ∧
    (∀ v, ((s.linkDown target o).station v).state ≠ .online ∧ ((s.linkDown target o).station v).state ≠ .withdrawing) ∧
    ∀ i, ((s.linkDown target o).slot i).state ≠ .opened ∧ ((s.linkDown target o).slot i).state ≠ .parked := by
  refine ⟨?_, fun v => ?_, fun i => ?_⟩
  · rw [State.linkDown_only]
    show s.abandonFrame.frame = none
    rw [State.abandonFrame_eq]
  · rw [State.station_linkDown_eq]
    exact Station.linkDown_state _
  · rw [State.slot_linkDown]
    have hcompletes := completes_linkOrder hlists o
    by_cases hi : i ∈ s.linkOrder o
    · rw [hcompletes.slot_mem i hi]
      exact ⟨nofun, nofun⟩
    · rw [hcompletes.slot_not_mem i hi, ((sameCore_abandonFrame s).slot i).1]
      refine ⟨fun hs => hi ?_, fun hs => hi ?_⟩
      all_goals
        have hact : (s.slot i).state.isActive = true := by rw [hs]; rfl
        refine List.mem_filter.mpr ⟨(State.mem_walkOrder_iff hlists i).mpr hact, ?_⟩
        rw [State.linkEnding_eq s o i hact, if_pos (by rw [hs]; nofun)]
        rfl

theorem Stage.keeps_linkDownQuiet {s t : State} (h : Stage s t) (hlists : s.listsMatch) (hs : s.linkDownQuiet) :
    t.linkDownQuiet := by
  cases h with
  | aside h =>
    rcases h.link with hlink | hup
    · refine Calmer.keeps_linkDownQuiet ⟨hlink, fun hf => ?_, fun v _ => (h.stations v).state, fun i hi => ?_⟩ hs
      · have htarget := h.frame
        rw [hf] at htarget
        exact Option.map_eq_none_iff.mp htarget
      · cases h.slots i with
        | kept hstate => exact hstate
        | idle _ hidle => rcases hi with hi | hi <;> rw [hi] at hidle <;> cases hidle
    · intro hdown
      rw [hup] at hdown
      cases hdown
  | enqueue i h hp =>
    have hle := Slot.reservation_le_of_postRefusal hp
    refine Calmer.keeps_linkDownQuiet ⟨?_, fun hf => ?_, fun v _ => ?_, fun j hj => ?_⟩ hs
    · exact State.enqueueSlot_eq hle ▸ rfl
    · exact State.enqueueSlot_eq hle ▸ hf
    · exact State.enqueueSlot_eq hle ▸ rfl
    · rw [State.slot_enqueueSlot hle] at hj ⊢
      split at hj
      · exact absurd hj nofun
      · next hne => rw [if_neg hne]
  | complete i r => exact (calmer_complete s i r).keeps_linkDownQuiet hs
  | abort i k => exact (calmer_enterAborting s i _).keeps_linkDownQuiet hs
  | enable v => exact (calmer_modStation s v (by simp [Station.enable])).keeps_linkDownQuiet hs
  | disable v =>
    exact ((calmer_modStation s v (g := fun r => r.disable) ⟨nofun, nofun⟩).trans (calmer_completeAll _ _ _)).keeps_linkDownQuiet hs
  | withdraw v hv =>
    intro hdown
    rw [(reportScope_startWithdrawal s v).link] at hdown
    exact absurd hv ((hs hdown).2.1 v).1
  | linkDown target => exact fun _ => State.linkDown_grounded hlists target _
  | dispatch =>
    intro hdown
    have hlink : s.link.isUp = false := (State.dispatch_frame s).link ▸ hdown
    rw [State.dispatch_of_link hlink]
    exact hs hlink
  | reset slots stations _ _ frame =>
    intro _
    refine ⟨frame, fun v => ?_, fun i => ?_⟩
    · rw [State.station, stations]
      show (State.reset.station v).state ≠ _ ∧ (State.reset.station v).state ≠ _
      rw [State.station_reset]
      exact ⟨nofun, nofun⟩
    · rw [State.slot, slots]
      show (State.reset.slot i).state ≠ _ ∧ (State.reset.slot i).state ≠ _
      rw [State.slot_reset]
      exact ⟨nofun, nofun⟩

theorem Stages.keeps_linkDownQuiet {s t : State} (h : Stages s t) (hlists : s.listsMatch) (hs : s.linkDownQuiet) :
    t.linkDownQuiet :=
  (h.preserves (I := fun u => u.listsMatch ∧ u.linkDownQuiet)
    (fun _ _ hc hu => ⟨hc.keeps_listsMatch hu.1, hc.keeps_linkDownQuiet hu.1 hu.2⟩) ⟨hlists, hs⟩).2

/-- A report comes of a frame in flight, and so of a link that is up. -/
theorem Runs.keeps_linkDownQuiet {s t : State} (h : Runs s t) (hlists : s.listsMatch) (hs : s.linkDownQuiet) :
    t.linkDownQuiet := by
  rcases h with h | ⟨f, gap, o, hf, ho, h⟩
  · exact h.keeps_linkDownQuiet hlists hs
  · refine h.keeps_linkDownQuiet ((changes_told gap ho).listsMatch hlists) fun hdown => ?_
    rw [(s.told_frame f gap o).2.2] at hdown
    rw [(hs hdown).1] at hf
    cases hf

end Sys2Proof.Machine

/-! Stations outside ONLINE stay quiet, stage by stage and at the report (R64, R73, R76). -/

namespace Sys2Proof.Machine

/-! ## What is chosen -/

/-- What the order of choice has found of the slot or station it chose (R86 to R92). -/
def Choice.fits (s : State) : Choice → Prop
  | .slotFrame i => ∃ v, (s.slot i).desc.stationId = some v ∧ (s.station v).state = .online ∧
      ((s.slot i).state = .aborting ∨ (s.slot i).state = .opened ∨
        ((s.slot i).state = .queued ∧ (s.station v).engaged = none))
  | .resume i => ∃ v, (s.slot i).desc.stationId = some v ∧ (s.station v).state = .online ∧
      (s.slot i).state = .parked ∧ (s.slot i).ready = true ∧ (s.station v).engaged = none
  | .sync _ => True
  | .poll v => (s.station v).state = .online ∧ (s.station v).pollTimer = .expired

theorem State.walkChoice_fits {s : State} {i : SlotId} {c : Choice} (h : s.walkChoice i = some c) : c.fits s := by
  obtain ⟨v, hwalks, hcase⟩ := State.walkChoice_ne_none (i := i) (s := s) (by rw [h]; nofun)
  obtain ⟨hd, honline, -, -⟩ := id hwalks
  rcases hcase with hs | ⟨hs, he, hroom⟩ | ⟨hs, hready, he⟩
  · rw [State.walkChoice_slotFrame hwalks (.inl hs)] at h
    cases h
    exact ⟨v, hd, honline, .inr (.inl hs)⟩
  · rw [State.walkChoice_slotFrame hwalks (.inr ⟨hs, he, (Station.hasParkRoom_iff _).mp hroom⟩)] at h
    cases h
    exact ⟨v, hd, honline, .inr (.inr ⟨hs, he⟩)⟩
  · rw [State.walkChoice_of_ready hwalks hs hready he] at h
    cases h
    exact ⟨v, hd, honline, hs, hready, he⟩

theorem State.syncChoice_fits {s : State} {c : Choice} (h : s.syncChoice = some c) : c.fits s := by
  obtain ⟨v, -, rfl⟩ := Option.map_eq_some_iff.mp h
  trivial

theorem State.choose_fits {s : State} {c : Choice} (h : s.choose = some c) : c.fits s := by
  unfold State.choose at h
  split at h
  case h_1 =>
    rcases Option.or_eq_some_iff.mp h with h | ⟨-, h⟩
    · obtain ⟨i, hi, rfl⟩ := Option.map_eq_some_iff.mp h
      obtain ⟨hs, hst⟩ := (s.abortOwed_iff i).mp (List.find?_some hi)
      obtain ⟨v, hd, honline⟩ := Option.map_eq_some_iff.mp hst
      exact ⟨v, hd, honline, .inl hs⟩
    rcases Option.or_eq_some_iff.mp h with h | ⟨-, h⟩
    · exact State.syncChoice_fits h
    rcases Option.or_eq_some_iff.mp h with h | ⟨-, h⟩
    · obtain ⟨v, hv, rfl⟩ := Option.map_eq_some_iff.mp h
      have heligible : (s.station v).pollEligible = true := List.find?_some (p := fun u => (s.station u).pollEligible) hv
      obtain ⟨honline, hexpired, -⟩ := (Station.pollEligible_iff _).mp heligible
      exact ⟨honline, hexpired⟩
    · obtain ⟨i, -, hi⟩ := List.exists_of_findSome?_eq_some h
      exact State.walkChoice_fits hi
  case h_2 => exact State.syncChoice_fits h
  all_goals cases h

/-! ## Calm changes -/

/-- From `s` to `t` every station that was quiet outside ONLINE is so still. -/
def Calm (s t : State) : Prop := ∀ v, (s.station v).quietUnlessOnline → (t.station v).quietUnlessOnline

theorem Calm.refl (s : State) : Calm s s := fun _ h => h

theorem Calm.trans {s t u : State} (h : Calm s t) (k : Calm t u) : Calm s u := fun v hv => k v (h v hv)

theorem calm_of_stations {s t : State} (h : t.stations = s.stations) : Calm s t := fun v hv => by
  rw [State.station, h]
  exact hv

theorem calm_modSlot (s : State) (i : SlotId) (f : Slot → Slot) : Calm s (s.modSlot i f) := calm_of_stations rfl

theorem calm_modStation (s : State) (v : StationId) {g : Station → Station}
    (h : (s.station v).quietUnlessOnline → (g (s.station v)).quietUnlessOnline) : Calm s (s.modStation v g) := by
  intro u hu
  rw [State.station_modStation]
  split
  · next e => exact h (e ▸ hu)
  · exact hu

/-- A record written to an ONLINE station that stays ONLINE. -/
theorem calm_modStation_of_online (s : State) (v : StationId) {g : Station → Station} (h : (g (s.station v)).state = .online) :
    Calm s (s.modStation v g) :=
  calm_modStation s v fun _ hne => absurd h hne

theorem calm_foldl {f : State → SlotId → State} (h : ∀ t i, Calm t (f t i)) (ids : List SlotId) (s : State) :
    Calm s (ids.foldl f s) := by
  induction ids generalizing s with
  | nil => exact .refl s
  | cons i ids ih => exact (h s i).trans (ih _)

theorem Station.Released.quiet {r q : Station} (h : r.Released q) (hr : r.quietUnlessOnline) : q.quietUnlessOnline := by
  intro hq
  have hstate : q.state = r.state := by rw [h.rest]
  obtain ⟨he, hp, -, -⟩ := id (hr (hstate ▸ hq))
  rw [h.unheld he hp]
  exact hr (hstate ▸ hq)

theorem calm_complete (s : State) (i : SlotId) (r : Result) : Calm s (s.complete i r) :=
  fun v hv => (released_complete s i r v).quiet hv

theorem calm_completeAll (s : State) (ids : List SlotId) (o : Ending) : Calm s (s.completeAll ids o) :=
  calm_foldl (fun t i => calm_complete t i _) ids s

theorem calm_completePending (s : State) (i : SlotId) (b : Bool) : Calm s (s.completePending i b) := by
  unfold State.completePending
  split
  · exact calm_complete s i _
  · exact .refl s

theorem Station.released_unpark (r : Station) (i : SlotId) (ready : SlotId → Bool) : r.Released (r.unpark i ready) :=
  ⟨rfl, fun he hp => by
    cases r
    cases he
    cases hp
    rfl⟩

theorem calm_leaveParked (s : State) (v : StationId) (i : SlotId) : Calm s (s.leaveParked v i) := by
  rw [State.leaveParked_eq]
  exact calm_modStation s v (Station.released_unpark _ i _).quiet

theorem calm_enterAborting (s : State) (i : SlotId) (o : Ending) : Calm s (s.enterAborting i o) := by
  unfold State.enterAborting
  dsimp only
  split
  · exact (calm_modSlot s i _).trans (calm_leaveParked _ _ i)
  · exact calm_modSlot s i _

theorem calm_resolveStop {s : State} (i : SlotId) {f : State → State} (h : Calm s (f s)) : Calm s (s.resolveStop i f) := by
  unfold State.resolveStop
  split
  · exact calm_enterAborting s i _
  · exact h

/-! ## The stages -/

theorem Station.quiet_leaveOnline {r : Station} (he : r.engaged = none) (hp : r.parked = []) (hb : r.backoff = none)
    (ht : r.pollTimer = .stopped) : r.quietUnlessOnline := fun _ => ⟨he, hp, hb, ht⟩

theorem Station.quiet_linkDown {r : Station} (h : r.quietUnlessOnline) : r.linkDown.quietUnlessOnline := by
  unfold Station.linkDown
  cases hr : r.state with
  | online => exact Station.quiet_leaveOnline rfl rfl rfl rfl
  | withdrawing => exact Station.quiet_leaveOnline rfl rfl rfl rfl
  | probing =>
    obtain ⟨he, hp, hb, ht⟩ := h (by rw [hr]; nofun)
    exact Station.quiet_leaveOnline he hp hb ht
  | absent | faulty | disabled => exact h

theorem calm_linkDown (s : State) (target : LinkState) (o : Ending) : Calm s (s.linkDown target o) := fun v hv => by
  rw [State.station_linkDown hv]
  exact Station.quiet_linkDown hv

theorem calm_sendSlotFrame (s : State) (i : SlotId) : Calm s (s.sendSlotFrame i) := by
  unfold State.sendSlotFrame
  dsimp only
  split
  · exact calm_of_stations rfl
  · exact .refl s

theorem calm_dispatch (s : State) : Calm s s.dispatch := by
  unfold State.dispatch
  split
  · split
    next c hc =>
      have hfits := State.choose_fits hc
      cases c with
      | slotFrame i => exact calm_sendSlotFrame s i
      | resume i =>
        obtain ⟨v, hd, honline, -⟩ := hfits
        refine .trans ?_ (calm_sendSlotFrame _ i)
        rw [State.resumeSlot_eq hd]
        exact Calm.trans (calm_modStation_of_online s v (g := fun r => { r.unpark i _ with engaged := some i }) honline)
          (calm_of_stations rfl)
      | sync v => exact calm_of_stations rfl
      | poll v =>
        exact (calm_modStation_of_online s v (g := fun r => { r with pollTimer := .held }) hfits.1).trans (calm_of_stations rfl)
    next => exact .refl s
  · exact .refl s

/-- A completion leaves a stopped poll timer stopped. -/
theorem State.complete_pollTimer_stopped {s : State} {v : StationId} (i : SlotId) (r : Result)
    (h : (s.station v).pollTimer = .stopped) : ((s.complete i r).station v).pollTimer = .stopped := by
  cases hc : (s.slot i).state.canComplete with
  | false => rw [State.complete_other hc]; exact h
  | true =>
    rw [State.station_complete hc]
    by_cases hv : (s.slot i).desc.stationId = some v
    · rw [State.station_stationsWithout hv, Station.without_pollTimer, h]
      exact ite_self _
    · rw [State.station_stationsWithout_ne hv]
      exact h

theorem State.foldl_modSlot_stations (f : Slot → Slot) (ids : List SlotId) (s : State) :
    (ids.foldl (fun t i => t.modSlot i f) s).stations = s.stations := by
  induction ids generalizing s with
  | nil => rfl
  | cons i ids ih => exact ih _

theorem State.detachFrame_stations (s : State) (v : StationId) : (s.detachFrame v).stations = s.stations := by
  rw [State.detachFrame_eq]

/-- The start of a withdrawal leaves its station quiet and touches no other. -/
theorem calm_startWithdrawal (s : State) (v : StationId) : Calm s (s.startWithdrawal v) := by
  have hengaged : ∀ t : State, (t.station v).backoff = none → (t.station v).pollTimer = .stopped →
      Calm t (t.withdrawEngaged v) ∧ ((t.withdrawEngaged v).station v).engaged = none ∧
        ((t.withdrawEngaged v).station v).backoff = none ∧ ((t.withdrawEngaged v).station v).pollTimer = .stopped := by
    intro t hb ht
    unfold State.withdrawEngaged
    rw [State.station_modStation_self]
    cases he : (t.station v).engaged with
    | none =>
      exact ⟨calm_modStation t v fun h hne => ⟨rfl, (h hne).2⟩, rfl, hb, ht⟩
    | some i =>
      have hbackoff : ((t.complete i { outcome := .withdrawn }).station v).backoff = none := by
        rw [(released_complete t i _ v).rest]
        exact hb
      exact ⟨(calm_complete t i _).trans (calm_modStation _ v fun h hne => ⟨rfl, (h hne).2⟩), rfl, hbackoff,
        State.complete_pollTimer_stopped i _ ht⟩
  have hparked : ∀ t : State, (t.station v).engaged = none → (t.station v).backoff = none →
      (t.station v).pollTimer = .stopped →
      Calm t (t.withdrawParked v) ∧ ((t.withdrawParked v).station v).quietUnlessOnline := by
    intro t he hb ht
    unfold State.withdrawParked
    have hstation : ∀ u, (((t.station v).parked.foldl
        (fun t i => t.modSlot i fun x => { x with ready := false }) t)).station u = t.station u := fun u => by
      rw [State.station, State.foldl_modSlot_stations]
      rfl
    have hquiet : ({ t.station v with parked := [] } : Station).quietUnlessOnline :=
      Station.quiet_leaveOnline he rfl hb ht
    refine ⟨Calm.trans (calm_of_stations (State.foldl_modSlot_stations _ _ t)) (calm_modStation _ v fun _ => ?_), ?_⟩
    · rw [hstation]
      exact hquiet
    · rw [State.station_modStation_self, hstation]
      exact hquiet
  obtain ⟨hcalm, he, hb, ht⟩ := hengaged (s.modStation v fun r => r.beginWithdrawal)
    (by rw [State.station_modStation_self]; rfl) (by rw [State.station_modStation_self]; rfl)
  obtain ⟨hcalm', hquiet⟩ := hparked _ he hb ht
  have hdetach := calm_of_stations
    (State.detachFrame_stations (((s.modStation v fun r => r.beginWithdrawal).withdrawEngaged v).withdrawParked v) v)
  intro u hu
  by_cases huv : u = v
  · subst huv
    exact hdetach u hquiet
  · refine (hcalm.trans (hcalm'.trans hdetach)) u ?_
    rw [State.station_modStation_ne _ _ _ _ huv]
    exact hu

theorem calm_of_alike {s t : State} (h : ∀ v, (s.station v).Alike (t.station v)) : Calm s t := by
  intro v hv hne
  obtain ⟨he, hp, hb, ht⟩ := hv ((h v).state ▸ hne)
  refine ⟨(h v).engaged.trans he, (h v).parked.trans hp, (h v).backoff hne hb, ?_⟩
  rcases (h v).pollTimer with hsame | ⟨hruns, -⟩
  · exact hsame.trans ht
  · rw [ht] at hruns
    cases hruns

theorem Stage.calm {s t : State} (h : Stage s t) : Calm s t := by
  cases h with
  | aside h => exact calm_of_alike h.stations
  | enqueue i h hp =>
    rw [State.enqueueSlot_eq (Slot.reservation_le_of_postRefusal hp)]
    exact calm_of_stations rfl
  | complete i r => exact calm_complete s i r
  | abort i k => exact calm_enterAborting s i _
  | enable v => exact calm_modStation s v fun _ => Station.quiet_leaveOnline rfl rfl rfl rfl
  | disable v hv =>
    refine Calm.trans (calm_modStation s v fun hr _ => ?_) (calm_completeAll _ _ _)
    refine hr ?_
    rcases hv with hv | hv | hv <;> rw [hv] <;> nofun
  | withdraw v => exact calm_startWithdrawal s v
  | linkDown target => exact calm_linkDown s target _
  | dispatch => exact calm_dispatch s
  | reset slots stations =>
    intro v _
    rw [State.station, stations]
    show (State.reset.station v).quietUnlessOnline
    rw [State.station_reset]
    exact Station.quiet_leaveOnline rfl rfl rfl rfl

end Sys2Proof.Machine

/-! The report leaves stations outside ONLINE quiet; the idle parts are quiet after every step. -/

namespace Sys2Proof.Machine

theorem calm_clearFailures (s : State) (v : StationId) : Calm s (s.clearFailures v) := by
  unfold State.clearFailures
  split
  · exact calm_modStation s v id
  · exact .refl s

theorem calm_countFailure (s : State) (v : StationId) : Calm s (s.countFailure v) := by
  unfold State.countFailure
  split
  · exact calm_modStation s v id
  · exact .refl s

theorem calm_startBackoff (s : State) (v : StationId) : Calm s (s.startBackoff v) := by
  unfold State.startBackoff
  split
  next h => exact calm_modStation_of_online s v h
  next => exact .refl s

theorem calm_restartPollTimer (s : State) (v : StationId) : Calm s (s.restartPollTimer v) := by
  unfold State.restartPollTimer
  split
  next h =>
    refine calm_modStation s v fun hq hne => ?_
    obtain ⟨-, -, -, ht⟩ := hq hne
    rw [h] at ht
    cases ht
  next => exact .refl s

theorem calm_startPollTimer {s : State} {v : StationId} (h : (s.station v).state = .online) :
    Calm s (s.startPollTimer v) := by
  unfold State.startPollTimer
  split
  · exact calm_modStation_of_online s v h
  · exact .refl s

/-! ## The effect of a reply on its slot -/

theorem calm_slotAccept {s : State} (i : SlotId) {v : StationId} (h : (s.station v).state = .online) :
    Calm s (s.slotAccept i v) := by
  unfold State.slotAccept
  refine Calm.trans (Calm.trans (calm_modSlot s i _) (calm_modStation_of_online _ v (g := fun r => { r with engaged := some i }) h))
    (calm_resolveStop i (calm_modSlot _ i _))

theorem calm_slotPark {s : State} (i : SlotId) {v : StationId} (h : (s.station v).state = .online) :
    Calm s (s.slotPark i v) := by
  unfold State.slotPark
  refine Calm.trans (calm_modStation_of_online s v (g := fun r => { r with engaged := none }) h) (calm_resolveStop i ?_)
  refine Calm.trans (Calm.trans (calm_modSlot _ i _) (calm_modStation_of_online _ v ?_)) (calm_startPollTimer ?_)
  · rw [State.station_modSlot, State.station_modStation_self]
    exact h
  · rw [State.station_modStation_self, State.station_modSlot, State.station_modStation_self]
    exact h

theorem calm_endWait (s : State) (i : SlotId) (noContext ranOut : Bool) : Calm s (s.endWait i noContext ranOut) := by
  have hend : ∀ o : Ending, Calm s (if noContext = true then s.complete i { outcome := o } else s.enterAborting i o) :=
    fun o => by
      split
      · exact calm_complete s i _
      · exact calm_enterAborting s i _
  unfold State.endWait
  split
  · exact hend _
  · split
    · exact hend _
    · exact .refl s

theorem calm_slotWait (s : State) (i : SlotId) (kind : FrameKind) : Calm s (s.slotWait i kind) :=
  (calm_modSlot s i (Slot.afterWait kind)).trans (calm_endWait _ i _ _)

theorem calm_slotValid {s : State} (i : SlotId) {f : Frame} (r : Reply) (h : (s.station f.station).state = .online) :
    Calm s (s.slotValid i f r) := by
  cases r with
  | accept => exact calm_slotAccept i h
  | park => exact calm_slotPark i h
  | wait => exact calm_slotWait s i _
  | refuse v => exact (calm_modSlot s i _).trans (calm_complete _ i _)
  | result v => exact calm_complete s i _
  | done => exact calm_completePending s i false
  | taken =>
    refine Calm.trans ?_ (calm_resolveStop (f := id) i (.refl _))
    exact calm_of_stations rfl
  | give payload =>
    refine Calm.trans ?_ (calm_resolveStop (f := id) i (.refl _))
    exact calm_of_stations rfl
  | present _ | nothing | ready _ => exact .refl s

theorem calm_slotFailed (s : State) (i : SlotId) (violation : Bool) : Calm s (s.slotFailed i violation) := by
  refine calm_resolveStop i ?_
  split
  · exact calm_enterAborting s i _
  · split
    · exact calm_modSlot s i _
    · exact calm_complete s i _

/-! ## The effect of a report on its station -/

theorem calm_faultStep (s : State) (v : StationId) {cause : State → State} (h : ∀ t, Calm t (cause t)) :
    Calm s (s.faultStep v cause) :=
  ((calm_modStation s v (g := fun r => r.fault) fun _ => Station.quiet_leaveOnline rfl rfl rfl rfl).trans (h _)).trans
    (calm_completeAll _ _ _)

theorem calm_endAbort (s : State) (i : SlotId) (violation : Bool) : Calm s (s.endAbort i violation) :=
  (calm_modSlot s i _).trans (calm_completePending _ i true)

theorem calm_completeCause (s : State) (i : SlotId) (kind : FrameKind) (violation : Bool) :
    Calm s (s.completeCause i kind violation) := by
  cases kind with
  | abort => exact calm_endAbort s i violation
  | sync | poll => exact .refl s
  | openReq | send | pull | finish => exact calm_complete s i _

theorem calm_slotFailure (s : State) (i : SlotId) (f : Frame) (violation : Bool) : Calm s (s.slotFailure i f violation) := by
  unfold State.slotFailure
  split
  · unfold State.abortFailed
    split
    · exact calm_faultStep s _ fun t => calm_endAbort t i violation
    · exact calm_modSlot s i _
  all_goals first
    | exact calm_slotFailed s i violation
    | exact .refl s

theorem calm_finishWithdrawal (s : State) (v : StationId) : Calm s (s.finishWithdrawal v) :=
  (calm_modStation s v (g := fun r => r.endWithdrawal) fun _ => Station.quiet_leaveOnline rfl rfl rfl rfl).trans
    (calm_completeAll _ _ _)

theorem calm_probeAnswered (s : State) (v : StationId) (d : Nat) : Calm s (s.probeAnswered v d) :=
  (calm_modStation_of_online s v (g := fun r => r.goOnline d) rfl).trans
    ((calm_foldl (fun t i => calm_completePending t i false) _ _).trans (calm_foldl (fun t i => calm_modSlot t i _) _ _))

theorem calm_probeFailed {s : State} {v : StationId} (h : (s.station v).state ≠ .online) : Calm s (s.probeFailed v) := by
  unfold State.probeFailed
  dsimp only
  split
  · exact (calm_modStation s v fun hq _ => hq h).trans (calm_completeAll _ _ _)
  · exact calm_modStation s v id

theorem calm_reportSync (s : State) (v : StationId) (o : FrameOutcome) : Calm s (s.reportSync v o) := by
  unfold State.reportSync
  split
  case h_1 => exact calm_probeAnswered s v _
  case h_2 =>
    rename_i hs _
    exact calm_probeFailed (by rw [hs]; nofun)
  case h_3 => exact calm_finishWithdrawal s v
  case h_4 =>
    unfold State.withdrawFailed
    split
    · exact calm_finishWithdrawal s v
    · exact calm_modStation s v id
  all_goals exact .refl s

theorem calm_reportPoll (s : State) (v : StationId) (o : FrameOutcome) : Calm s (s.reportPoll v o) := by
  unfold State.reportPoll
  split
  · refine (calm_clearFailures s v).trans (Calm.trans ?_ (calm_restartPollTimer _ v))
    split
    · unfold State.takeReady
      split
      · exact calm_modSlot _ _ _
      · exact .refl _
    · exact .refl _
  · refine (calm_countFailure s v).trans ?_
    dsimp only
    split
    · exact calm_faultStep _ v fun t => .refl t
    · exact calm_restartPollTimer _ v

theorem calm_reportFailure (s : State) (f : Frame) (tk : Option SlotId) (violation : Bool) :
    Calm s (s.reportFailure f tk violation) := by
  unfold State.reportFailure
  refine (calm_countFailure s f.station).trans ?_
  dsimp only
  split
  · refine calm_faultStep _ _ fun t => ?_
    split
    · exact calm_completeCause t _ _ _
    · exact .refl t
  · split
    · exact calm_slotFailure _ _ f violation
    · exact .refl _

/-- Neither the failure count nor the backoff timer bears on a station's state. -/
theorem State.state_afterReply (s : State) (v u : StationId) (r : Reply) :
    ((if r = .wait then (s.clearFailures v).startBackoff v else s.clearFailures v).station u).state = (s.station u).state := by
  have hkeep : ∀ (t : State) (g : Station → Station), (∀ q, (g q).state = q.state) →
      ((t.modStation v g).station u).state = (t.station u).state := fun t g hg => by
    rw [State.station_modStation]
    split
    · next e => rw [hg, e]
    · rfl
  have hclear : ((s.clearFailures v).station u).state = (s.station u).state := by
    unfold State.clearFailures
    split
    · exact hkeep s _ fun _ => rfl
    · rfl
  split
  · refine Eq.trans ?_ hclear
    unfold State.startBackoff
    split
    · exact hkeep _ _ fun _ => rfl
    · rfl
  · exact hclear

theorem calm_reportValid {s : State} {f : Frame} {tk : Option SlotId} (r : Reply)
    (h : ∀ i, tk = some i → (s.station f.station).state = .online) : Calm s (s.reportValid f tk r) := by
  unfold State.reportValid
  have hfirst : Calm s (if r = .wait then (s.clearFailures f.station).startBackoff f.station else s.clearFailures f.station) := by
    split
    · exact (calm_clearFailures s _).trans (calm_startBackoff _ _)
    · exact calm_clearFailures s _
  refine hfirst.trans ?_
  cases tk with
  | none => exact .refl _
  | some i => exact calm_slotValid i r ((s.state_afterReply _ _ r).trans (h i rfl))

theorem calm_reportTables {s : State} {f : Frame} {tk : Option SlotId} (o : FrameOutcome)
    (h : ∀ i, tk = some i → (s.station f.station).state = .online) : Calm s (s.reportTables f tk o) := by
  unfold State.reportTables
  split
  case h_1 => exact calm_reportSync s _ _
  case h_2 => exact calm_reportPoll s _ _
  case h_3 => exact calm_reportValid _ h
  all_goals exact calm_reportFailure s f tk _

/-- The slot that takes a report stands at the frame's station, which is ONLINE (R101). -/
theorem State.online_of_slotTaking {s : State} {f : Frame} {i : SlotId} (hs : s.engagement) (hf : s.frame = some f)
    (h : s.slotTaking f = some i) : (s.slot i).desc.stationId = some f.station ∧ (s.station f.station).state = .online ∧
      (f.kind = .openReq → (s.station f.station).engaged = none) := by
  obtain ⟨-, hflag, -⟩ := State.slotTaking_eq_some h
  obtain ⟨-, hslots⟩ := hs
  obtain ⟨-, -, -, -, hfits⟩ := hslots i
  obtain ⟨g, hg, -, hd, -, -, honline, hopen⟩ := hfits hflag
  rw [hf] at hg
  cases hg
  exact ⟨hd, honline, hopen⟩

theorem calm_told {s : State} {f : Frame} (gap : Bool) (o : FrameOutcome) (hs : s.engagement) (hf : s.frame = some f) :
    Calm s (s.told f gap o) := by
  have hcounted : Calm s (s.counted f gap o) := fun v hv => by
    rw [State.station_counted]
    exact hv
  refine (hcounted.trans (calm_reportTables o fun i hi => ?_)).trans (calm_of_stations rfl)
  rw [State.station_counted]
  exact (State.online_of_slotTaking hs hf hi).2.1

theorem Runs.calm {s t : State} (h : Runs s t) (hs : s.engagement) : Calm s t := by
  have hstages : ∀ {u : State}, Stages u t → Calm u t := fun hu v =>
    hu.preserves (I := fun u => (u.station v).quietUnlessOnline) fun _ _ hc => hc.calm v
  rcases h with h | ⟨f, gap, o, hf, -, h⟩
  · exact hstages h
  · exact (calm_told gap o hs hf).trans (hstages h)

/-! ## The obligation -/

theorem State.engagement_congr {s t : State} (h : SameBoard s t) (hs : s.engagement) : t.engagement := by
  have hslot : t.slot = s.slot := funext h.slot
  have hstation : t.station = s.station := funext h.station
  unfold State.engagement State.parkedFits State.engagedFits State.openEngaged State.parkedListed State.readyListed
    State.activeServed State.flagFits
  rw [hslot, hstation, h.frame]
  exact hs

theorem State.linkDownQuiet_congr {s t : State} (h : SameBoard s t) (hs : s.linkDownQuiet) : t.linkDownQuiet := by
  have hslot : t.slot = s.slot := funext h.slot
  have hstation : t.station = s.station := funext h.station
  unfold State.linkDownQuiet
  rw [hslot, hstation, h.frame, h.link]
  exact hs

theorem State.listsMatch_of_sameBoard {s t : State} (h : SameBoard s t) (hs : s.listsMatch) : t.listsMatch := by
  intro i
  rw [h.urgent, h.normal, h.slot]
  exact hs i

/-- Settles O59: a step is a run of stages, each of which keeps its station quiet, the link that is down quiet and the line
in order. -/
theorem stepKeepsTheIdlePartsQuiet : Obligations.StepKeepsTheIdlePartsQuiet := by
  intro s t h
  obtain ⟨u, hsame, hruns⟩ := step_runs h
  refine ⟨fun hquiet hs v => ?_, fun hdown hlists => ?_, fun hline => ?_⟩
  · exact hruns.calm (State.engagement_congr hsame hs) v (by rw [hsame.station]; exact hquiet v)
  · exact hruns.keeps_linkDownQuiet (State.listsMatch_of_sameBoard hsame hlists) (State.linkDownQuiet_congr hsame hdown)
  · exact hruns.keeps_lineFits (State.lineFits_congr hsame.frame hsame.gapPassed hsame.receiver hline)

end Sys2Proof.Machine

/-! Slots and stations that fit one another, with the exceptions of a station that its slots are leaving and of a poll timer
that is held over no frame (R52, R64, R76, R101, R123, R126, R127). -/

namespace Sys2Proof.Machine

/-! ## The relations between a slot and its station -/

/-- What the state of a slot asks of its own station's record. -/
structure Slot.Homed (x : Slot) (i : SlotId) (r : Station) : Prop where
  opened : x.state = .opened → r.engaged = some i
  parked : x.state = .parked → i ∈ r.parked ∨ r.state = .withdrawing
  ready : x.ready = true → x.state = .parked ∧ i ∈ r.parked
  served : x.state.isActive = true → r.state ≠ .disabled ∧ r.state ≠ .absent ∧ r.state ≠ .faulty

/-- The frame in flight is the one that the slot offers, at its ONLINE station. -/
def State.Carried (s : State) (i : SlotId) (v : StationId) : Prop :=
  ∃ f ∈ s.frame, f.slot = some i ∧ f.station = v ∧ (s.slot i).state ≠ .parked ∧
    (s.slot i).nextFrame = some (f.kind, f.index) ∧ (s.station v).state = .online ∧
    (f.kind = .openReq → (s.station v).engaged = none)

/-- A poll timer that runs or is expired under a poll condition, and is stopped only without one. -/
def PollTimer.Fits (p : PollTimer) (condition : Bool) : Prop :=
  (p = .expired ∨ p.isRunning = true → condition = true) ∧ (p = .stopped → condition = false)

/-- A poll timer that is held, but for the station `held`, over a POLL in flight, and always over one to an ONLINE station. -/
structure State.Polled (s : State) (held : Option StationId) (v : StationId) : Prop where
  timer : (s.station v).pollTimer.Fits (s.pollCondition v)
  held : (s.station v).pollTimer = .held → held = some v ∨ ∃ f ∈ s.frame, f.kind = .poll ∧ f.station = v
  online : ∀ f ∈ s.frame, f.kind = .poll → f.station = v → (s.station v).state = .online → (s.station v).pollTimer = .held

/-- Slots and stations fit one another, but that the slots of the station `away` need not be those of its record; under `P` the
poll timers fit too, but that that of the station `held` may be held over no frame. -/
structure State.Sound (P : Prop) (held away : Option StationId) (s : State) : Prop where
  quiet : s.stationsQuiet
  lists : ∀ v, (s.station v).parked.Nodup ∧ (s.station v).parked.length ≤ (s.station v).parkDepth
  engaged : ∀ v, s.engagedFits v
  parked : ∀ v, ∀ i ∈ (s.station v).parked, (s.slot i).state = .parked ∧ (s.slot i).desc.stationId = some v
  named : ∀ i, (s.slot i).state.isActive = true → ∃ v, (s.slot i).desc.stationId = some v
  resting : ∀ i, (s.slot i).state.isActive = false → (s.slot i).ready = false ∧ (s.slot i).inFlight = false
  homed : ∀ i v, (s.slot i).desc.stationId = some v → away ≠ some v → (s.slot i).Homed i (s.station v)
  carried : ∀ i v, (s.slot i).desc.stationId = some v → away ≠ some v → (s.slot i).inFlight = true → s.Carried i v
  polled : P → ∀ v, s.Polled held v

theorem Slot.isActive_of_nextFrame {x : Slot} {k : FrameKind × Nat} (h : x.nextFrame = some k) : x.state.isActive = true := by
  unfold Slot.nextFrame at h
  split at h
  next hs => rw [hs]; rfl
  next hs => rw [hs]; rfl
  next hs => rw [hs]; rfl
  next hs => rw [hs]; rfl
  all_goals cases h

/-- No slot offers a POLL or a SYNC. -/
theorem Slot.nextFrame_kind {x : Slot} {kind : FrameKind} {index : Nat} (h : x.nextFrame = some (kind, index)) :
    kind ≠ .poll ∧ kind ≠ .sync := by
  unfold Slot.nextFrame Slot.exchangeFrame at h
  split at h
  case h_1 | h_4 => cases h; exact ⟨nofun, nofun⟩
  case h_2 | h_3 =>
    split at h
    · cases h; exact ⟨nofun, nofun⟩
    · split at h <;> cases h <;> exact ⟨nofun, nofun⟩
  all_goals cases h

theorem State.polled_of_pollFits {s : State} {v : StationId} (h : s.pollFits v) : s.Polled none v := by
  obtain ⟨hruns, hstopped, hheld, honline⟩ := h
  exact ⟨⟨hruns, hstopped⟩, fun h => .inr (hheld h), honline⟩

theorem State.Polled.pollFits {s : State} {v : StationId} (h : s.Polled none v) : s.pollFits v :=
  ⟨h.timer.1, h.timer.2, fun hh => (h.held hh).resolve_left nofun, h.online⟩

theorem State.sound_of_engagement {s : State} (h : s.engagement) (hq : s.stationsQuiet) :
    s.Sound s.pollTimersFit none none := by
  obtain ⟨hstations, hslots⟩ := h
  have hactive : ∀ i, (s.slot i).ready = true ∨ (s.slot i).inFlight = true → (s.slot i).state.isActive = true := by
    intro i hi
    obtain ⟨-, -, hready, -, hflag⟩ := hslots i
    rcases hi with hi | hi
    · rw [(hready hi).1]
      rfl
    · obtain ⟨f, -, -, -, -, hoffer, -⟩ := hflag hi
      exact Slot.isActive_of_nextFrame hoffer
  refine ⟨hq, fun v => ?_, fun v => (hstations v).2, fun v => ?_, fun i hi => ?_, fun i hi => ?_, fun i v hd _ => ?_,
    fun i v hd _ hi => ?_, fun hp v => State.polled_of_pollFits (hp v)⟩
  · obtain ⟨⟨hnodup, hlen, -⟩, -⟩ := hstations v
    exact ⟨hnodup, hlen⟩
  · obtain ⟨⟨-, -, hin⟩, -⟩ := hstations v
    exact hin
  · obtain ⟨-, -, -, hserved, -⟩ := hslots i
    obtain ⟨v, hv, -⟩ := hserved hi
    exact ⟨v, hv⟩
  · refine ⟨Bool.eq_false_iff.mpr fun hr => ?_, Bool.eq_false_iff.mpr fun hf => ?_⟩
    · exact Bool.noConfusion (hi.symm.trans (hactive i (.inl hr)))
    · exact Bool.noConfusion (hi.symm.trans (hactive i (.inr hf)))
  · obtain ⟨hopened, hparked, hready, hserved, -⟩ := hslots i
    have hown : ∀ u, (s.slot i).desc.stationId = some u → u = v := fun u hu => Option.some.inj (hu.symm.trans hd)
    refine ⟨fun hs => ?_, fun hs => ?_, fun hs => ⟨(hready hs).1, ?_⟩, fun hs => ?_⟩
    · obtain ⟨u, hu, he⟩ := hopened hs
      exact hown u hu ▸ he
    · obtain ⟨u, hu, he⟩ := hparked hs
      exact hown u hu ▸ he
    · obtain ⟨-, u, hu, he⟩ := hready hs
      exact hown u hu ▸ he
    · obtain ⟨u, hu, he⟩ := hserved hs
      exact hown u hu ▸ he
  · obtain ⟨-, -, -, -, hflag⟩ := hslots i
    obtain ⟨f, hf, hslot, hst, hnot, hoffer, honline, hopen⟩ := hflag hi
    have hv : f.station = v := Option.some.inj (hst.symm.trans hd)
    exact ⟨f, hf, hslot, hv, hnot, hoffer, hv ▸ honline, hv ▸ hopen⟩

theorem State.Sound.engagement {P : Prop} {held : Option StationId} {s : State} (h : s.Sound P held none) :
    s.engagement := by
  have hnamed : ∀ i, (s.slot i).ready = true ∨ (s.slot i).inFlight = true ∨ (s.slot i).state.isActive = true →
      ∃ v, (s.slot i).desc.stationId = some v := by
    intro i hi
    refine h.named i ?_
    by_contra hna
    obtain ⟨hr, hf⟩ := h.resting i (Bool.eq_false_iff.mpr hna)
    rw [hr, hf] at hi
    exact hi.elim nofun fun hi => hi.elim nofun hna
  refine ⟨fun v => ⟨⟨(h.lists v).1, (h.lists v).2, h.parked v⟩, h.engaged v⟩, fun i => ⟨fun hs => ?_, fun hs => ?_,
    fun hs => ?_, fun hs => ?_, fun hs => ?_⟩⟩
  · obtain ⟨v, hv⟩ := hnamed i (.inr (.inr (by rw [hs]; rfl)))
    exact ⟨v, hv, (h.homed i v hv nofun).opened hs⟩
  · obtain ⟨v, hv⟩ := hnamed i (.inr (.inr (by rw [hs]; rfl)))
    exact ⟨v, hv, (h.homed i v hv nofun).parked hs⟩
  · obtain ⟨v, hv⟩ := hnamed i (.inl hs)
    obtain ⟨hp, hin⟩ := (h.homed i v hv nofun).ready hs
    exact ⟨hp, v, hv, hin⟩
  · obtain ⟨v, hv⟩ := hnamed i (.inr (.inr hs))
    exact ⟨v, hv, (h.homed i v hv nofun).served hs⟩
  · obtain ⟨v, hv⟩ := hnamed i (.inr (.inl hs))
    obtain ⟨f, hf, hslot, hst, hnot, hoffer, honline, hopen⟩ := h.carried i v hv nofun hs
    exact ⟨f, hf, hslot, hst ▸ hv, hnot, hoffer, hst ▸ honline, hst ▸ hopen⟩

theorem State.Sound.pollTimersFit {P : Prop} {s : State} (h : s.Sound P none none) (hP : P) : s.pollTimersFit :=
  fun v => (h.polled hP v).pollFits

/-- With no frame in flight no in-flight flag is set. -/
theorem State.Sound.unflagged {P : Prop} {held : Option StationId} {s : State} (h : s.Sound P held none)
    (hf : s.frame = none) (i : SlotId) : (s.slot i).inFlight = false := by
  refine Bool.eq_false_iff.mpr fun hi => ?_
  cases ha : (s.slot i).state.isActive with
  | false =>
    rw [(h.resting i ha).2] at hi
    cases hi
  | true =>
    obtain ⟨v, hv⟩ := h.named i ha
    obtain ⟨f, hm, -⟩ := h.carried i v hv nofun hi
    rw [hf] at hm
    cases hm

/-! ## The poll condition -/

theorem State.pollCondition_congr {s t : State} {v : StationId} (hstate : (t.station v).state = (s.station v).state)
    (hparked : (t.station v).parked = (s.station v).parked)
    (hready : ∀ i ∈ (s.station v).parked, (t.slot i).ready = (s.slot i).ready) : t.pollCondition v = s.pollCondition v := by
  have hany : ((s.station v).parked.any fun i => !(t.slot i).ready) = (s.station v).parked.any fun i => !(s.slot i).ready := by
    rw [Bool.eq_iff_iff, List.any_eq_true, List.any_eq_true]
    exact ⟨fun ⟨i, hi, h⟩ => ⟨i, hi, hready i hi ▸ h⟩, fun ⟨i, hi, h⟩ => ⟨i, hi, (hready i hi).symm ▸ h⟩⟩
  rw [State.pollCondition, State.pollCondition, hstate, hparked, hany]

theorem State.pollCondition_iff (s : State) (v : StationId) : s.pollCondition v = true ↔
    (s.station v).state = .online ∧ ∃ i ∈ (s.station v).parked, (s.slot i).ready = false := by
  simp [State.pollCondition]

theorem State.pollCondition_of_not_online {s : State} {v : StationId} (h : (s.station v).state ≠ .online) :
    s.pollCondition v = false :=
  Bool.eq_false_iff.mpr fun hc => h ((s.pollCondition_iff v).mp hc).1

/-- A poll timer that is settled by a condition which the old one covers. -/
theorem PollTimer.Fits.settled {p : PollTimer} {c c' : Bool} (h : p.Fits c) (hc : c' = true → c = true) :
    (p.settled c').Fits c' := by
  unfold PollTimer.settled
  split
  next hs => exact ⟨fun hr => absurd hr (by simp [PollTimer.isRunning]), fun _ => hs.1⟩
  next hs =>
    refine ⟨fun hr => ?_, fun hp => ?_⟩
    · by_contra hne
      exact hs ⟨Bool.eq_false_iff.mpr hne, hr⟩
    · refine Bool.eq_false_iff.mpr fun ht => ?_
      exact Bool.noConfusion ((h.2 hp).symm.trans (hc ht))

theorem PollTimer.settled_eq_held {p : PollTimer} {c : Bool} : p.settled c = .held ↔ p = .held := by
  unfold PollTimer.settled
  split
  next h =>
    refine ⟨nofun, fun hp => ?_⟩
    subst hp
    exact absurd h.2 (by simp [PollTimer.isRunning])
  next => rfl

/-! ## A change aside -/

/-- Frames in flight that are aimed alike. -/
theorem exists_frame_of_target {a b : Option Frame} (h : b.map Frame.target = a.map Frame.target) {f : Frame} (hf : f ∈ a) :
    ∃ g ∈ b, g.kind = f.kind ∧ g.station = f.station ∧ g.slot = f.slot ∧ g.index = f.index := by
  rw [hf, Option.map_some] at h
  obtain ⟨g, hg, heq⟩ := Option.map_eq_some_iff.mp h
  simp only [Frame.target, Prod.mk.injEq] at heq
  exact ⟨g, hg, heq⟩

/-- A record whose standing has not changed, of a slot that rests when it is not active. -/
theorem Slot.Alike.cases {x y : Slot} (h : x.Alike y) (hrest : x.state.isActive = false → x.ready = false ∧ x.inFlight = false) :
    (y.state = x.state ∧ y.desc.stationId = x.desc.stationId ∧ y.ready = x.ready ∧ y.inFlight = x.inFlight ∧
      (x.inFlight = true → y.nextFrame = x.nextFrame)) ∨
    (x.state.isActive = false ∧ y.state.isActive = false ∧ y.ready = false ∧ y.inFlight = false) := by
  cases h with
  | kept hstate _ hstation hready hflag hoffer => exact .inl ⟨hstate, hstation, hready, hflag, hoffer⟩
  | idle hx hy hready hflag =>
    obtain ⟨hr, hf⟩ := hrest hx
    refine .inr ⟨hx, hy, Bool.eq_false_iff.mpr fun h => ?_, Bool.eq_false_iff.mpr fun h => ?_⟩
    · exact Bool.noConfusion (hr.symm.trans (hready h))
    · exact Bool.noConfusion (hf.symm.trans (hflag h))

/-- A slot that is not active, nor ready, asks nothing of its station. -/
theorem Slot.homed_of_inactive {x : Slot} (h : x.state.isActive = false) (hr : x.ready = false) (i : SlotId) (r : Station) :
    x.Homed i r := by
  refine ⟨fun hs => ?_, fun hs => ?_, fun hs => ?_, fun hs => ?_⟩
  · rw [hs] at h; cases h
  · rw [hs] at h; cases h
  · rw [hr] at hs; cases hs
  · rw [h] at hs; cases hs

theorem State.Sound.alike {P : Prop} {held away : Option StationId} {s t : State} (hs : s.Sound P held away)
    (hslots : ∀ i, (s.slot i).Alike (t.slot i)) (hstations : ∀ v, (s.station v).Alike (t.station v))
    (hframe : t.frame.map Frame.target = s.frame.map Frame.target) : t.Sound P held away := by
  have hslot := fun i => (hslots i).cases (hs.resting i)
  have hready : ∀ i, (s.slot i).state = .parked → (t.slot i).state = .parked ∧ (t.slot i).ready = (s.slot i).ready ∧
      (t.slot i).desc.stationId = (s.slot i).desc.stationId := fun i hi => by
    rcases hslot i with ⟨hstate, hd, hr, -⟩ | ⟨hx, -⟩
    · exact ⟨hstate.trans hi, hr, hd⟩
    · rw [hi] at hx
      cases hx
  refine ⟨fun v => calm_of_alike hstations v (hs.quiet v), fun v => ?_, fun v i hi => ?_, fun v i hi => ?_, fun i hi => ?_,
    fun i hi => ?_, fun i v hd ha => ?_, fun i v hd ha hi => ?_, fun hP v => ?_⟩
  · rw [(hstations v).parked, (hstations v).parkDepth]
    exact hs.lists v
  · rw [(hstations v).engaged] at hi
    obtain ⟨hstate, hd⟩ := hs.engaged v i hi
    rcases hslot i with ⟨hst, hdd, -⟩ | ⟨hx, -⟩
    · rw [hst, hdd]
      exact ⟨hstate, hd⟩
    · rcases hstate with hstate | hstate <;> rw [hstate] at hx <;> cases hx
  · rw [(hstations v).parked] at hi
    obtain ⟨hstate, hd⟩ := hs.parked v i hi
    obtain ⟨hp, -, hdd⟩ := hready i hstate
    exact ⟨hp, hdd.trans hd⟩
  · rcases hslot i with ⟨hst, hdd, -⟩ | ⟨-, hy, -⟩
    · rw [hdd]
      exact hs.named i (hst ▸ hi)
    · rw [hi] at hy
      cases hy
  · rcases hslot i with ⟨hst, -, hr, hf, -⟩ | ⟨-, -, hr, hf⟩
    · rw [hr, hf]
      exact hs.resting i (hst ▸ hi)
    · exact ⟨hr, hf⟩
  · rcases hslot i with ⟨hst, hdd, hr, -⟩ | ⟨-, hy, hr, -⟩
    · have hhome := hs.homed i v (hdd ▸ hd) ha
      have hstation := hstations v
      refine ⟨fun hx => ?_, fun hx => ?_, fun hx => ?_, fun hx => ?_⟩
      · exact hstation.engaged.trans (hhome.opened (hst ▸ hx))
      · rw [hstation.parked, hstation.state]
        exact hhome.parked (hst ▸ hx)
      · rw [hst, hstation.parked]
        exact hhome.ready (hr ▸ hx)
      · rw [hstation.state]
        exact hhome.served (hst ▸ hx)
    · exact Slot.homed_of_inactive hy hr i _
  · rcases hslot i with ⟨hst, hdd, -, hf, hoffer⟩ | ⟨-, -, -, hf⟩
    · obtain ⟨f, hm, hfi, hfv, hnot, hnext, honline, hopen⟩ := hs.carried i v (hdd ▸ hd) ha (hf ▸ hi)
      obtain ⟨g, hg, hkind, hstation, hgi, hindex⟩ := exists_frame_of_target hframe hm
      refine ⟨g, hg, hgi.trans hfi, hstation.trans hfv, hst ▸ hnot, ?_, (hstations v).state.trans honline, fun hk => ?_⟩
      · rw [hoffer (hf ▸ hi), hnext, hkind, hindex]
      · exact (hstations v).engaged.trans (hopen (hkind ▸ hk))
    · rw [hi] at hf
      cases hf
  · have hp := hs.polled hP v
    have hcond : t.pollCondition v = s.pollCondition v :=
      State.pollCondition_congr (hstations v).state (hstations v).parked fun i hi =>
        (hready i (hs.parked v i hi).1).2.1
    have htimer : (t.station v).pollTimer.Fits (s.pollCondition v) ∧
        ((t.station v).pollTimer = .held ↔ (s.station v).pollTimer = .held) := by
      rcases (hstations v).pollTimer with hsame | ⟨hruns, hexp⟩
      · rw [hsame]
        exact ⟨hp.timer, .rfl⟩
      · rw [hexp]
        refine ⟨⟨fun _ => hp.timer.1 (.inr hruns), nofun⟩, nofun, fun hheld => ?_⟩
        rw [hheld] at hruns
        cases hruns
    refine ⟨hcond ▸ htimer.1, fun hheld => ?_, fun g hg hk hv honline => ?_⟩
    · refine (hp.held (htimer.2.mp hheld)).imp_right fun ⟨f, hm, hkind, hstation⟩ => ?_
      obtain ⟨g, hg, hk, hv, -⟩ := exists_frame_of_target hframe hm
      exact ⟨g, hg, hk.trans hkind, hv.trans hstation⟩
    · obtain ⟨f, hm, hkind, hstation, -⟩ := exists_frame_of_target hframe.symm hg
      exact htimer.2.mpr (hp.online f hm (hkind.trans hk) (hstation.trans hv) ((hstations v).state ▸ honline))

theorem State.Sound.aside {P : Prop} {held away : Option StationId} {s t : State} (hs : s.Sound P held away)
    (h : Aside s t) : t.Sound P held away := hs.alike h.slots h.stations h.frame

theorem State.Sound.sameBoard {P : Prop} {held away : Option StationId} {s t : State} (hs : s.Sound P held away)
    (h : SameBoard s t) : t.Sound P held away := hs.aside h.aside

/-! ## A change of flags and poll timers -/

/-- Slots and stations in the same states, with the same lists: the in-flight flags and the poll timers are to be looked at. -/
theorem State.Sound.standing {P : Prop} {held held' away : Option StationId} {s t : State} (hs : s.Sound P held away)
    (hslots : ∀ i, (t.slot i).state = (s.slot i).state ∧ (t.slot i).desc = (s.slot i).desc ∧
      (t.slot i).ready = (s.slot i).ready)
    (hstations : ∀ v, (t.station v).state = (s.station v).state ∧ (t.station v).engaged = (s.station v).engaged ∧
      (t.station v).parked = (s.station v).parked ∧ (t.station v).parkDepth = (s.station v).parkDepth)
    (hquiet : t.stationsQuiet)
    (hflags : ∀ i, (t.slot i).inFlight = true → (t.slot i).state.isActive = true ∧
      ∀ v, (t.slot i).desc.stationId = some v → t.Carried i v)
    (hpolled : P → ∀ v, t.Polled held' v) : t.Sound P held' away := by
  refine ⟨hquiet, fun v => ?_, fun v i hi => ?_, fun v i hi => ?_, fun i hi => ?_, fun i hi => ?_, fun i v hd ha => ?_,
    fun i v hd _ hi => (hflags i hi).2 v hd, hpolled⟩
  · obtain ⟨-, -, hparked, hdepth⟩ := hstations v
    rw [hparked, hdepth]
    exact hs.lists v
  · obtain ⟨hstate, hdesc, -⟩ := hslots i
    rw [hstate, hdesc]
    exact hs.engaged v i ((hstations v).2.1 ▸ hi)
  · obtain ⟨hstate, hdesc, -⟩ := hslots i
    rw [hstate, hdesc]
    exact hs.parked v i ((hstations v).2.2.1 ▸ hi)
  · obtain ⟨hstate, hdesc, -⟩ := hslots i
    rw [hdesc]
    exact hs.named i (hstate ▸ hi)
  · obtain ⟨hstate, -, hready⟩ := hslots i
    refine ⟨hready.trans (hs.resting i (hstate ▸ hi)).1, Bool.eq_false_iff.mpr fun hf => ?_⟩
    exact Bool.noConfusion (hi.symm.trans (hflags i hf).1)
  · obtain ⟨hstate, hdesc, hready⟩ := hslots i
    obtain ⟨hst, hengaged, hparked, -⟩ := hstations v
    have hhome := hs.homed i v (hdesc ▸ hd) ha
    refine ⟨fun h => ?_, fun h => ?_, fun h => ?_, fun h => ?_⟩
    · exact hengaged.trans (hhome.opened (hstate ▸ h))
    · rw [hparked, hst]
      exact hhome.parked (hstate ▸ h)
    · rw [hparked, hstate]
      exact hhome.ready (hready ▸ h)
    · rw [hst]
      exact hhome.served (hstate ▸ h)

end Sys2Proof.Machine

/-! Moves of one slot at its station that keep slots and stations fitting. -/

namespace Sys2Proof.Machine

/-! ## A move of one slot at its station -/

/-- From `s` to `t` the slot `i` alone has moved at its station `v`, with no frame of its own in flight. -/
structure Moved (s t : State) (i : SlotId) (v : StationId) : Prop where
  slot_ne : ∀ j, j ≠ i → t.slot j = s.slot j
  station_ne : ∀ u, u ≠ v → t.station u = s.station u
  frame : t.frame = s.frame
  before : (s.slot i).desc.stationId = some v
  after : (t.slot i).desc.stationId = some v
  state : (t.station v).state = (s.station v).state
  lists : (t.station v).parked.Nodup ∧ (t.station v).parked.length ≤ (t.station v).parkDepth
  engaged_ne : ∀ j, j ≠ i → ((t.station v).engaged = some j ↔ (s.station v).engaged = some j)
  parked_ne : ∀ j, j ≠ i → (j ∈ (t.station v).parked ↔ j ∈ (s.station v).parked)
  flags : ∀ j, j ≠ i → (s.slot j).inFlight = true → (s.station v).engaged = none → (t.station v).engaged = none
  engaged_self : (t.station v).engaged = some i → (t.slot i).state = .opened ∨ (t.slot i).state = .aborting
  parked_self : i ∈ (t.station v).parked → (t.slot i).state = .parked
  homed : (t.slot i).Homed i (t.station v)
  resting : (t.slot i).state.isActive = false → (t.slot i).ready = false
  unflagged : (t.slot i).inFlight = false

theorem State.Polled.congr {held : Option StationId} {s t : State} {v : StationId} (h : s.Polled held v)
    (hframe : t.frame = s.frame) (hstate : (t.station v).state = (s.station v).state)
    (htimer : (t.station v).pollTimer = (s.station v).pollTimer) (hcond : t.pollCondition v = s.pollCondition v) :
    t.Polled held v :=
  ⟨by rw [htimer, hcond]; exact h.timer, by rw [htimer, hframe]; exact h.held,
    by rw [htimer, hframe, hstate]; exact h.online⟩

theorem State.Sound.moved {P : Prop} {held away : Option StationId} {s t : State} {i : SlotId} {v : StationId}
    (hs : s.Sound P held away) (h : Moved s t i v) (hcalm : Calm s t) (hpoll : P → t.Polled held v) :
    t.Sound P held away := by
  have helsewhere : ∀ u, u ≠ v → ∀ {w}, (t.slot i).desc.stationId = some w → w = u → False := fun u hu w hw e =>
    hu (Option.some.inj ((e ▸ hw).symm.trans h.after))
  have hheld : ∀ u, u ≠ v → (s.station u).engaged ≠ some i ∧ i ∉ (s.station u).parked := fun u hu =>
    ⟨fun he => hu (Option.some.inj ((hs.engaged u i he).2.symm.trans h.before)),
      fun hp => hu (Option.some.inj ((hs.parked u i hp).2.symm.trans h.before))⟩
  refine ⟨fun u => hcalm u (hs.quiet u), fun u => ?_, fun u j hj => ?_, fun u j hj => ?_, fun j hj => ?_, fun j hj => ?_,
    fun j u hd ha => ?_, fun j u hd ha hj => ?_, fun hP u => ?_⟩
  · by_cases hu : u = v
    · exact hu ▸ h.lists
    · rw [h.station_ne u hu]
      exact hs.lists u
  · by_cases hu : u = v
    · subst hu
      by_cases hji : j = i
      · subst hji
        exact ⟨h.engaged_self hj, h.after⟩
      · rw [h.slot_ne j hji]
        exact hs.engaged u j ((h.engaged_ne j hji).mp hj)
    · rw [h.station_ne u hu] at hj
      have hji : j ≠ i := fun e => (hheld u hu).1 (e ▸ hj)
      rw [h.slot_ne j hji]
      exact hs.engaged u j hj
  · by_cases hu : u = v
    · subst hu
      by_cases hji : j = i
      · subst hji
        exact ⟨h.parked_self hj, h.after⟩
      · rw [h.slot_ne j hji]
        exact hs.parked u j ((h.parked_ne j hji).mp hj)
    · rw [h.station_ne u hu] at hj
      have hji : j ≠ i := fun e => (hheld u hu).2 (e ▸ hj)
      rw [h.slot_ne j hji]
      exact hs.parked u j hj
  · by_cases hji : j = i
    · exact ⟨v, hji ▸ h.after⟩
    · rw [h.slot_ne j hji] at hj ⊢
      exact hs.named j hj
  · by_cases hji : j = i
    · subst hji
      exact ⟨h.resting hj, h.unflagged⟩
    · rw [h.slot_ne j hji] at hj ⊢
      exact hs.resting j hj
  · by_cases hji : j = i
    · subst hji
      have hu : u = v := Option.some.inj (hd.symm.trans h.after)
      exact hu ▸ h.homed
    · rw [h.slot_ne j hji] at hd ⊢
      have hhome := hs.homed j u hd ha
      by_cases hu : u = v
      · subst hu
        refine ⟨fun hx => (h.engaged_ne j hji).mpr (hhome.opened hx), fun hx => ?_, fun hx => ?_, fun hx => ?_⟩
        · rw [h.parked_ne j hji, h.state]
          exact hhome.parked hx
        · rw [h.parked_ne j hji]
          exact hhome.ready hx
        · rw [h.state]
          exact hhome.served hx
      · rw [h.station_ne u hu]
        exact hhome
  · by_cases hji : j = i
    · rw [hji, h.unflagged] at hj
      cases hj
    · rw [h.slot_ne j hji] at hd hj
      obtain ⟨f, hm, hfj, hfu, hnot, hnext, honline, hopen⟩ := hs.carried j u hd ha hj
      refine ⟨f, h.frame ▸ hm, hfj, hfu, h.slot_ne j hji ▸ hnot, h.slot_ne j hji ▸ hnext, ?_, fun hk => ?_⟩
      all_goals by_cases hu : u = v
      · subst hu
        exact h.state.trans honline
      · rw [h.station_ne u hu]
        exact honline
      · subst hu
        exact h.flags j hji hj (hopen hk)
      · rw [h.station_ne u hu]
        exact hopen hk
  · by_cases hu : u = v
    · exact hu ▸ hpoll hP
    · refine (hs.polled hP u).congr h.frame (by rw [h.station_ne u hu]) (by rw [h.station_ne u hu]) ?_
      refine State.pollCondition_congr (by rw [h.station_ne u hu]) (by rw [h.station_ne u hu]) fun j hj => ?_
      rw [h.slot_ne j fun e => (hheld u hu).2 (e ▸ hj)]

/-! ## A slot that leaves the parked list -/

/-- The poll timer fits after a slot has left the parked list, or was not in it (R76, R125). -/
theorem State.Polled.unparked {held : Option StationId} {s t : State} {v : StationId} {i : SlotId}
    (h : s.Polled held v) (hframe : t.frame = s.frame) (hstate : (t.station v).state = (s.station v).state)
    (hparked : (t.station v).parked = (s.station v).parked.erase i)
    (htimer : (t.station v).pollTimer =
      if i ∈ (s.station v).parked then (s.station v).pollTimer.settled (t.pollCondition v) else (s.station v).pollTimer)
    (hready : ∀ j ∈ (s.station v).parked.erase i, (t.slot j).ready = (s.slot j).ready) : t.Polled held v := by
  have hcond : t.pollCondition v = true → s.pollCondition v = true := fun hc => by
    obtain ⟨honline, j, hj, hr⟩ := (t.pollCondition_iff v).mp hc
    rw [hparked] at hj
    exact (s.pollCondition_iff v).mpr ⟨hstate ▸ honline, j, List.mem_of_mem_erase hj, hready j hj ▸ hr⟩
  by_cases hi : i ∈ (s.station v).parked
  · rw [if_pos hi] at htimer
    refine ⟨?_, fun hheld => ?_, fun f hf hk hv honline => ?_⟩
    · rw [htimer]
      exact h.timer.settled hcond
    · rw [htimer, PollTimer.settled_eq_held] at hheld
      rw [hframe]
      exact h.held hheld
    · rw [htimer, PollTimer.settled_eq_held]
      exact h.online f (hframe ▸ hf) hk hv (hstate ▸ honline)
  · rw [if_neg hi] at htimer
    rw [List.erase_of_not_mem hi] at hparked hready
    exact h.congr hframe hstate htimer (State.pollCondition_congr hstate hparked hready)

/-- The record that a slot leaves its parked list in, by the poll condition after it. -/
theorem Station.unpark_pollTimer {s t : State} {v : StationId} {i : SlotId}
    (hstate : (t.station v).state = (s.station v).state) (hparked : (t.station v).parked = (s.station v).parked.erase i)
    (hready : ∀ j ∈ (s.station v).parked.erase i, (t.slot j).ready = (s.slot j).ready) :
    ((s.station v).unpark i fun j => (s.slot j).ready).pollTimer =
      if i ∈ (s.station v).parked then (s.station v).pollTimer.settled (t.pollCondition v) else (s.station v).pollTimer := by
  have hcond : t.pollCondition v =
      (decide ((s.station v).state = .online) && ((s.station v).parked.erase i).any fun j => !(s.slot j).ready) := by
    rw [Bool.eq_iff_iff, State.pollCondition_iff, hstate, hparked, Bool.and_eq_true, decide_eq_true_eq, List.any_eq_true]
    refine and_congr_right fun _ => ⟨fun ⟨j, hj, h⟩ => ⟨j, hj, ?_⟩, fun ⟨j, hj, h⟩ => ⟨j, hj, ?_⟩⟩
    · rw [← hready j hj, h]
      rfl
    · rw [hready j hj]
      simpa using h
  rw [hcond]
  rfl

theorem ne_of_mem_erase_of_nodup {l : List SlotId} (h : l.Nodup) {i j : SlotId} (hj : j ∈ l.erase i) : j ≠ i :=
  ((h.mem_erase_iff).mp hj).1

/-- The slot that leaves is gone from the list; the others stand as they stood. -/
theorem nodup_erased {l : List SlotId} (h : l.Nodup) (i : SlotId) :
    (l.erase i).Nodup ∧ i ∉ l.erase i ∧ ∀ j, j ≠ i → (j ∈ l.erase i ↔ j ∈ l) :=
  ⟨h.erase i, h.not_mem_erase, fun _ hj => List.mem_erase_of_ne hj⟩

/-! ## The completion step -/

/-- A slot that is not active stands at no station's record. -/
theorem State.Sound.unheld {P : Prop} {held away : Option StationId} {s : State} (hs : s.Sound P held away) {i : SlotId}
    (h : (s.slot i).state.isActive = false) (v : StationId) :
    (s.station v).engaged ≠ some i ∧ i ∉ (s.station v).parked := by
  refine ⟨fun he => ?_, fun hp => ?_⟩
  · rcases (hs.engaged v i he).1 with hx | hx <;> rw [hx] at h <;> cases h
  · rw [(hs.parked v i hp).1] at h
    cases h

theorem State.moved_complete {P : Prop} {held away : Option StationId} {s : State} (hs : s.Sound P held away) {i : SlotId}
    {v : StationId} (hd : (s.slot i).desc.stationId = some v) (hc : (s.slot i).state.canComplete = true) (r : Result) :
    Moved s (s.complete i r) i v ∧
      (s.complete i r).station v = (s.station v).without i fun j => (s.slot j).ready := by
  have hslot : (s.complete i r).slot i = (s.slot i).completed r := by rw [State.slot_complete hc, if_pos rfl]
  have hstation : (s.complete i r).station v = (s.station v).without i fun j => (s.slot j).ready := by
    rw [State.station_complete hc, State.station_stationsWithout hd]
  obtain ⟨hnodup, hlen⟩ := hs.lists v
  obtain ⟨hnodup', hnot, hmem⟩ := nodup_erased hnodup i
  have hengaged : ((s.complete i r).station v).engaged =
      if (s.station v).engaged = some i then none else (s.station v).engaged := by rw [hstation]; rfl
  have hparked : ((s.complete i r).station v).parked = (s.station v).parked.erase i := by rw [hstation]; rfl
  refine ⟨{
    slot_ne := fun j hj => by rw [State.slot_complete hc, if_neg hj]
    station_ne := fun u hu => ?_
    frame := (reportScope_complete s i r).frame
    before := hd
    after := by rw [hslot]; exact hd
    state := by rw [hstation]; rfl
    lists := ?_
    engaged_ne := fun j hj => ?_
    parked_ne := fun j hj => by rw [hparked]; exact hmem j hj
    flags := fun j _ _ he => ?_
    engaged_self := fun he => ?_
    parked_self := fun hp => absurd (hparked ▸ hp) hnot
    homed := ?_
    resting := fun _ => by rw [hslot]; rfl
    unflagged := by rw [hslot]; rfl }, hstation⟩
  · rw [State.station_complete hc, State.station_stationsWithout_ne]
    rw [hd]
    exact fun e => hu (Option.some.inj e).symm
  · rw [hparked]
    refine ⟨hnodup', (List.length_erase_le).trans (hlen.trans_eq ?_)⟩
    rw [hstation]
    rfl
  · rw [hengaged]
    split
    · next he => rw [he]; exact ⟨nofun, fun h => absurd (Option.some.inj h).symm hj⟩
    · rfl
  · rw [hengaged, he]
    rfl
  · rw [hengaged] at he
    split at he
    · cases he
    · next hne => exact absurd he hne
  · rw [hslot]
    exact Slot.homed_of_inactive rfl rfl i _

theorem State.Sound.complete {P : Prop} {held away : Option StationId} {s : State} (hs : s.Sound P held away) (i : SlotId)
    (r : Result) : (s.complete i r).Sound P held away := by
  cases hc : (s.slot i).state.canComplete with
  | false =>
    rw [State.complete_other hc]
    exact hs
  | true =>
    cases ha : (s.slot i).state.isActive with
    | false =>
      have hstations : (s.complete i r).stations = s.stations := by
        rw [State.complete_eq_update hc]
        exact State.stationsWithout_of_unheld fun v _ => hs.unheld ha v
      refine hs.alike (fun j => ?_) (fun v => ?_) (by rw [(reportScope_complete s i r).frame])
      · rw [State.slot_complete hc]
        split
        · next hj =>
          subst hj
          exact .idle ha rfl nofun nofun
        · exact .refl _
      · have hv : (s.complete i r).station v = s.station v := by rw [State.station, hstations]; rfl
        rw [hv]
        exact .refl _
    | true =>
      obtain ⟨v, hd⟩ := hs.named i ha
      obtain ⟨hmoved, hstation⟩ := State.moved_complete hs hd hc r
      refine hs.moved hmoved (calm_complete s i r) fun hP => ?_
      have hparked : ((s.complete i r).station v).parked = (s.station v).parked.erase i := by rw [hstation]; rfl
      have hready : ∀ j ∈ (s.station v).parked.erase i, ((s.complete i r).slot j).ready = (s.slot j).ready := fun j hj => by
        rw [hmoved.slot_ne j (ne_of_mem_erase_of_nodup (hs.lists v).1 hj)]
      refine (hs.polled hP v).unparked hmoved.frame hmoved.state hparked ?_ hready
      rw [← Station.unpark_pollTimer hmoved.state hparked hready, hstation]
      rfl

theorem State.Sound.completeAll {P : Prop} {held away : Option StationId} (ids : List SlotId) (o : Ending) {s : State}
    (hs : s.Sound P held away) : (s.completeAll ids o).Sound P held away := by
  induction ids generalizing s with
  | nil => exact hs
  | cons i ids ih => exact ih (hs.complete i _)

theorem State.Sound.completeEach {P : Prop} {held away : Option StationId} (ids : List SlotId) (r : SlotId → Result)
    {s : State} (hs : s.Sound P held away) : (s.completeEach ids r).Sound P held away := by
  induction ids generalizing s with
  | nil => exact hs
  | cons i ids ih => exact ih (hs.complete i _)

theorem State.Sound.completePending {P : Prop} {held away : Option StationId} {s : State} (hs : s.Sound P held away)
    (i : SlotId) (b : Bool) : (s.completePending i b).Sound P held away := by
  unfold State.completePending
  split
  · exact hs.complete i _
  · exact hs

/-- An edit of a slot record that leaves its standing as it is. -/
theorem State.Sound.modSlot {P : Prop} {held away : Option StationId} {s : State} (hs : s.Sound P held away) (i : SlotId)
    {g : Slot → Slot} (h : (s.slot i).Alike (g (s.slot i))) : (s.modSlot i g).Sound P held away := by
  refine hs.alike (fun j => ?_) (fun v => .refl _) rfl
  rw [State.slot_modSlot]
  split
  · next hj => exact hj ▸ h
  · exact .refl _

/-- An edit of a station record that leaves it holding the same slots. -/
theorem State.Sound.modStation {P : Prop} {held away : Option StationId} {s : State} (hs : s.Sound P held away)
    (v : StationId) {g : Station → Station} (h : (s.station v).Alike (g (s.station v))) :
    (s.modStation v g).Sound P held away := by
  refine hs.alike (fun i => .refl _) (fun u => ?_) rfl
  rw [State.station_modStation]
  split
  · next hu => exact hu ▸ h
  · exact .refl _

/-! ## A slot outside the parked list -/

/-- A slot that is not PARKED becomes OPEN or ABORTING, or engaged, at a station that served it. -/
theorem State.Sound.regarded {P : Prop} {held away : Option StationId} {s t : State} (hs : s.Sound P held away)
    {i : SlotId} {v : StationId} {e : Option SlotId} (hslot_ne : ∀ j, j ≠ i → t.slot j = s.slot j)
    (hstation_ne : ∀ u, u ≠ v → t.station u = s.station u) (hframe : t.frame = s.frame)
    (hstation : t.station v = { s.station v with engaged := e }) (hcalm : Calm s t)
    (hd : (s.slot i).desc.stationId = some v)
    (hserved : (s.station v).state ≠ .disabled ∧ (s.station v).state ≠ .absent ∧ (s.station v).state ≠ .faulty)
    (hparked : i ∉ (s.station v).parked)
    (hd' : (t.slot i).desc.stationId = some v) (hstate : (t.slot i).state = .opened ∨ (t.slot i).state = .aborting)
    (hready : (t.slot i).ready = false) (hflag : (t.slot i).inFlight = false)
    (hopened : (t.slot i).state = .opened → e = some i)
    (hothers : ∀ j, j ≠ i → (e = some j ↔ (s.station v).engaged = some j))
    (hflags : ∀ j, j ≠ i → (s.slot j).inFlight = true → (s.station v).engaged = none → e = none) :
    t.Sound P held away := by
  have hready_same : ∀ j ∈ (s.station v).parked, (t.slot j).ready = (s.slot j).ready := fun j hj => by
    rw [hslot_ne j fun hji => hparked (hji ▸ hj)]
  refine hs.moved (i := i) (v := v) {
    slot_ne := hslot_ne
    station_ne := hstation_ne
    frame := hframe
    before := hd
    after := hd'
    state := by rw [hstation]
    lists := by rw [hstation]; exact hs.lists v
    engaged_ne := fun j hj => by rw [hstation]; exact hothers j hj
    parked_ne := fun j _ => by rw [hstation]
    flags := fun j hj hf he => by rw [hstation]; exact hflags j hj hf he
    engaged_self := fun _ => hstate
    parked_self := fun hp => by rw [hstation] at hp; exact absurd hp hparked
    homed := ?_
    resting := fun _ => hready
    unflagged := hflag } hcalm fun hP => (hs.polled hP v).congr hframe (by rw [hstation]) (by rw [hstation])
      (State.pollCondition_congr (by rw [hstation]) (by rw [hstation]) hready_same)
  rw [hstation]
  refine ⟨fun h => hopened h, fun h => ?_, fun h => ?_, fun _ => hserved⟩
  · rcases hstate with hx | hx <;> rw [hx] at h <;> cases h
  · rw [hready] at h
    cases h

end Sys2Proof.Machine

/-! What a report does to the slot that takes it keeps slots and stations fitting. -/

namespace Sys2Proof.Machine

section
variable {P : Prop} {held : Option StationId} {s : State}

/-! ## Entry to ABORTING -/

theorem State.station_enterAborting {i : SlotId} {v : StationId} (hd : (s.slot i).desc.stationId = some v) (o : Ending)
    (u : StationId) : (s.enterAborting i o).station u = if u = v then
      (s.station v).unpark i fun j => ((s.modSlot i fun x => x.toAborting o).slot j).ready else s.station u := by
  unfold State.enterAborting
  simp only [hd, State.leaveParked_eq]
  exact State.station_modStation ..

theorem State.Sound.enterAborting (hs : s.Sound P held none) {i : SlotId} (hcan : (s.slot i).state.canStop = true)
    (hflag : (s.slot i).inFlight = false) (o : Ending) : (s.enterAborting i o).Sound P held none := by
  have hactive := SlotState.isActive_of_canStop hcan
  obtain ⟨v, hd⟩ := hs.named i hactive
  have hhome := hs.homed i v hd nofun
  have hslot_ne : ∀ j, j ≠ i → (s.enterAborting i o).slot j = s.slot j := fun j hj => by
    rw [State.slot_enterAborting, if_neg hj]
  have hslot : (s.enterAborting i o).slot i = (s.slot i).toAborting o := by rw [State.slot_enterAborting, if_pos rfl]
  have hscope := reportScope_enterAborting s i o
  have hstation_ne : ∀ u, u ≠ v → (s.enterAborting i o).station u = s.station u := fun u hu => by
    rw [State.station_enterAborting hd, if_neg hu]
  by_cases hin : i ∈ (s.station v).parked
  · have hstation : (s.enterAborting i o).station v =
        (s.station v).unpark i fun j => ((s.modSlot i fun x => x.toAborting o).slot j).ready := by
      rw [State.station_enterAborting hd, if_pos rfl]
    have hparked : ((s.enterAborting i o).station v).parked = (s.station v).parked.erase i := by rw [hstation]; rfl
    have hengaged : ((s.enterAborting i o).station v).engaged = (s.station v).engaged := by rw [hstation]; rfl
    have hstate : ((s.enterAborting i o).station v).state = (s.station v).state := by rw [hstation]; rfl
    obtain ⟨hnodup, hlen⟩ := hs.lists v
    obtain ⟨hnodup', hnot, hmem⟩ := nodup_erased hnodup i
    have hready : ∀ j ∈ (s.station v).parked.erase i, ((s.enterAborting i o).slot j).ready = (s.slot j).ready := fun j hj => by
      rw [hslot_ne j (ne_of_mem_erase_of_nodup hnodup hj)]
    refine hs.moved (i := i) (v := v) {
      slot_ne := hslot_ne
      station_ne := hstation_ne
      frame := hscope.frame
      before := hd
      after := by rw [hslot]; exact hd
      state := hstate
      lists := ?_
      engaged_ne := fun j _ => by rw [hengaged]
      parked_ne := fun j hj => by rw [hparked]; exact hmem j hj
      flags := fun j _ _ he => hengaged.trans he
      engaged_self := fun _ => by rw [hslot]; exact .inr rfl
      parked_self := fun hp => absurd (hparked ▸ hp) hnot
      homed := ?_
      resting := fun _ => by rw [hslot]; rfl
      unflagged := by rw [hslot]; exact hflag } (calm_enterAborting s i o) fun hP =>
        (hs.polled hP v).unparked hscope.frame hstate hparked ?_ hready
    · rw [hparked]
      refine ⟨hnodup', (List.length_erase_le).trans (hlen.trans_eq ?_)⟩
      rw [hstation]
      rfl
    · rw [hslot]
      refine ⟨nofun, nofun, nofun, fun _ => ?_⟩
      rw [hstate]
      exact hhome.served hactive
    · have hsame : ∀ j, ((s.enterAborting i o).slot j).ready = ((s.modSlot i fun x => x.toAborting o).slot j).ready :=
        fun j => by rw [State.slot_enterAborting, State.slot_modSlot]
      rw [hstation]
      exact Station.unpark_pollTimer (s := s.modSlot i fun x => x.toAborting o) (t := s.enterAborting i o) hstate hparked
        fun j _ => hsame j
  · have heq := State.enterAborting_of_unparked (s := s) (i := i) o
      fun u hu => by rw [Option.some.inj (hu.symm.trans hd)]; exact hin
    refine hs.regarded (i := i) (v := v) (e := (s.station v).engaged) hslot_ne hstation_ne hscope.frame (by rw [heq]; rfl)
      (calm_enterAborting s i o) hd (hhome.served hactive) hin (by rw [hslot]; exact hd) (by rw [hslot]; exact .inr rfl)
      (by rw [hslot]; rfl) (by rw [hslot]; exact hflag) (by rw [hslot]; exact nofun) (fun _ _ => .rfl) fun _ _ _ he => he

/-- A reply that leaves its slot's standing, over a held stop or not. -/
theorem State.Sound.resolveStop {i : SlotId} (hs : s.Sound P held none) (hcan : (s.slot i).state.canStop = true)
    (hflag : (s.slot i).inFlight = false) {g : State → State} (h : (g s).Sound P held none) :
    (s.resolveStop i g).Sound P held none := by
  unfold State.resolveStop
  split
  · exact hs.enterAborting hcan hflag _
  · exact h

/-! ## A reply to the slot's frame -/

/-- An OPEN or QUEUED slot stands in no parked list. -/
theorem State.Sound.not_parked (hs : s.Sound P held none) {i : SlotId} (h : (s.slot i).state ≠ .parked) (v : StationId) :
    i ∉ (s.station v).parked := fun hp => h (hs.parked v i hp).1

/-- No other slot is engaged at the station of an OPEN slot. -/
theorem State.Sound.engaged_of_opened (hs : s.Sound P held none) {i : SlotId} {v : StationId}
    (hd : (s.slot i).desc.stationId = some v) (h : (s.slot i).state = .opened) : (s.station v).engaged = some i :=
  (hs.homed i v hd nofun).opened h

/-- A slot that is not PARKED is written OPEN or ABORTING, with what its ONLINE station engages, while no frame is in flight. -/
theorem State.Sound.engaging (hs : s.Sound P held none) (hf : s.frame = none) {i : SlotId} {v : StationId} {y : Slot}
    {e : Option SlotId} (hd : (s.slot i).desc.stationId = some v) (hnot : (s.slot i).state ≠ .parked)
    (honline : (s.station v).state = .online) (hdesc : y.desc = (s.slot i).desc)
    (hstate : y.state = .opened ∨ y.state = .aborting) (hready : y.ready = false) (hflag : y.inFlight = false)
    (hopened : y.state = .opened → e = some i) (hothers : ∀ j, j ≠ i → (e = some j ↔ (s.station v).engaged = some j)) :
    ((s.setSlot i y).setStation v { s.station v with engaged := e }).Sound P held none := by
  have hslot : ((s.setSlot i y).setStation v { s.station v with engaged := e }).slot i = y := by
    rw [State.slot_setStation, State.slot_setSlot_self]
  refine hs.regarded (i := i) (v := v) (e := e) (fun j hj => ?_) (fun u hu => ?_) rfl (State.station_setStation_self ..) ?_ hd
    (by rw [honline]; exact ⟨nofun, nofun, nofun⟩) (hs.not_parked hnot v) (by rw [hslot, hdesc]; exact hd)
    (by rw [hslot]; exact hstate) (by rw [hslot]; exact hready) (by rw [hslot]; exact hflag)
    (by rw [hslot]; exact hopened) hothers fun j _ hj => ?_
  · rw [State.slot_setStation, State.slot_setSlot_ne _ _ _ _ hj]
  · rw [State.station_setStation_ne _ _ _ _ hu]
    rfl
  · exact calm_modStation_of_online s v (g := fun _ => { s.station v with engaged := e }) honline
  · rw [hs.unflagged hf j] at hj
    cases hj

theorem State.Sound.not_ready (hs : s.Sound P held none) {i : SlotId} {v : StationId}
    (hd : (s.slot i).desc.stationId = some v) (h : (s.slot i).state ≠ .parked) : (s.slot i).ready = false :=
  Bool.eq_false_iff.mpr fun hr => h ((hs.homed i v hd nofun).ready hr).1

theorem State.Sound.slotAccept (hs : s.Sound P held none) (hf : s.frame = none) {i : SlotId} {v : StationId}
    (hd : (s.slot i).desc.stationId = some v) (hq : (s.slot i).state = .queued) (honline : (s.station v).state = .online)
    (he : (s.station v).engaged = none) : (s.slotAccept i v).Sound P held none := by
  have hnot : (s.slot i).state ≠ .parked := by rw [hq]; nofun
  have hothers : ∀ j, j ≠ i → (some i = some j ↔ (s.station v).engaged = some j) := fun j hj => by
    rw [he]
    exact ⟨fun h => absurd (Option.some.inj h).symm hj, nofun⟩
  rw [State.slotAccept_eq]
  cases hstop : (s.slot i).stopRequest with
  | some k =>
    rw [State.resolveStop_setBoth (k := k)]
    · exact hs.engaging hf hd hnot honline rfl (.inr rfl) rfl (hs.unflagged hf i) nofun hothers
    · exact hstop
    · exact hd
    · exact hs.not_parked hnot v
  | none =>
    rw [State.resolveStop_of_none (by rw [State.slot_setStation, State.slot_setSlot_self]; exact hstop), State.modSlot,
      State.slot_setStation, State.slot_setSlot_self, State.setSlot_setStation, State.setSlot_setSlot]
    exact hs.engaging hf hd hnot honline rfl (.inl rfl) (hs.not_ready hd hnot) (hs.unflagged hf i) (fun _ => rfl) hothers

/-! ## PARK -/

/-- With no frame in flight no poll timer is held. -/
theorem State.Sound.not_held (hs : s.Sound P none none) (hf : s.frame = none) (hP : P) (v : StationId) :
    (s.station v).pollTimer ≠ .held := fun hh => by
  rcases (hs.polled hP v).held hh with h | ⟨f, hm, -⟩
  · cases h
  · rw [hf] at hm
    cases hm

/-- The record of a station as a PARK leaves it (R76, R116). -/
def Station.park (r : Station) (i : SlotId) (n : Nat) : Station :=
  { r with
    engaged := none
    parked := r.parked ++ [i]
    pollTimer := if r.pollTimer = .stopped then .running n else r.pollTimer }

theorem State.slotPark_of_no_stop {i : SlotId} {v : StationId} (h : (s.slot i).stopRequest = none) :
    s.slotPark i v = (s.setSlot i { s.slot i with state := .parked, ready := false }).setStation v
      ((s.station v).park i s.cfg.pollInterval) := by
  simp only [State.slotPark, State.resolveStop, State.startPollTimer_eq, State.modSlot, State.modStation,
    State.setSlot_setStation, State.slot_setStation, State.setStation_setStation, State.station_setStation_self, h]
  rfl

theorem State.Sound.slotPark (hs : s.Sound P none none) (hf : s.frame = none) {i : SlotId} {v : StationId}
    (hd : (s.slot i).desc.stationId = some v) (ho : (s.slot i).state = .opened) (honline : (s.station v).state = .online)
    (hroom : (s.station v).parked.length < (s.station v).parkDepth) : (s.slotPark i v).Sound P none none := by
  have hnot : (s.slot i).state ≠ .parked := by rw [ho]; nofun
  have hout := hs.not_parked hnot v
  have he := hs.engaged_of_opened hd ho
  have hothers : ∀ j, j ≠ i → (none = some j ↔ (s.station v).engaged = some j) := fun j hj => by
    rw [he]
    exact ⟨nofun, fun h => absurd (Option.some.inj h).symm hj⟩
  cases hstop : (s.slot i).stopRequest with
  | some k =>
    unfold State.slotPark State.modStation
    rw [State.resolveStop_setStation (y := s.slot i) (k := k) rfl hstop hd]
    · exact hs.engaging hf hd hnot honline rfl (.inr rfl) rfl (hs.unflagged hf i) nofun hothers
    · exact hout
  | none =>
    have hcalm := calm_slotPark (s := s) i honline
    rw [State.slotPark_of_no_stop hstop] at hcalm ⊢
    have hslot : ((s.setSlot i { s.slot i with state := .parked, ready := false }).setStation v
        ((s.station v).park i s.cfg.pollInterval)).slot i = { s.slot i with state := .parked, ready := false } := by
      rw [State.slot_setStation, State.slot_setSlot_self]
    have hstation : ((s.setSlot i { s.slot i with state := .parked, ready := false }).setStation v
        ((s.station v).park i s.cfg.pollInterval)).station v = (s.station v).park i s.cfg.pollInterval :=
      State.station_setStation_self ..
    obtain ⟨hnodup, -⟩ := hs.lists v
    refine hs.moved (i := i) (v := v) {
      slot_ne := fun j hj => by rw [State.slot_setStation, State.slot_setSlot_ne _ _ _ _ hj]
      station_ne := fun u hu => by rw [State.station_setStation_ne _ _ _ _ hu]; rfl
      frame := rfl
      before := hd
      after := by rw [hslot]; exact hd
      state := by rw [hstation]; rfl
      lists := ?_
      engaged_ne := fun j hj => by rw [hstation]; exact hothers j hj
      parked_ne := fun j hj => by rw [hstation]; simp [Station.park, hj]
      flags := fun _ _ _ _ => by rw [hstation]; rfl
      engaged_self := fun h => by rw [hstation] at h; cases h
      parked_self := fun _ => by rw [hslot]
      homed := ?_
      resting := fun _ => by rw [hslot]
      unflagged := by rw [hslot]; exact hs.unflagged hf i } hcalm fun hP => ?_
    · rw [hstation]
      refine ⟨?_, ?_⟩
      · simp [Station.park, List.nodup_append, hnodup]
        exact fun a ha h => hout (h ▸ ha)
      · simp only [Station.park, List.length_append, List.length_singleton]
        omega
    · rw [hslot, hstation]
      refine ⟨nofun, fun _ => .inl (by simp [Station.park]), nofun, fun _ => ?_⟩
      exact (hs.homed i v hd nofun).served (by rw [ho]; rfl)
    · have hcond : ((s.setSlot i { s.slot i with state := .parked, ready := false }).setStation v
          ((s.station v).park i s.cfg.pollInterval)).pollCondition v = true := by
        rw [State.pollCondition_iff, hstation]
        exact ⟨honline, i, by simp [Station.park], by rw [hslot]⟩
      refine ⟨⟨fun _ => hcond, fun h => ?_⟩, fun h => ?_, fun f hm => ?_⟩
      · rw [hstation] at h
        simp only [Station.park] at h
        split at h
        · cases h
        · next hne => exact absurd h hne
      · rw [hstation] at h
        simp only [Station.park] at h
        split at h
        · cases h
        · exact absurd h (hs.not_held hf hP v)
      · have hnone : s.frame = some f := hm
        rw [hf] at hnone
        cases hnone

end

end Sys2Proof.Machine

/-! A valid or failed reply to a slot's frame keeps slots and stations fitting. -/

namespace Sys2Proof.Machine

/-- After the end of its frame, the slot that takes the report still offers that frame, at its ONLINE station (R101). -/
structure State.TakesAt (s : State) (f : Frame) (i : SlotId) : Prop where
  frame : s.frame = none
  takes : (s.slot i).Takes f.kind f.index
  station : (s.slot i).desc.stationId = some f.station
  online : (s.station f.station).state = .online
  unengaged : f.kind = .openReq → (s.station f.station).engaged = none

section
variable {P : Prop} {s : State} {f : Frame} {i : SlotId}

/-- An edit that leaves the standing of a slot with no frame in flight. -/
theorem Slot.alike_of_unflagged {x y : Slot} (hx : x.inFlight = false) (state : y.state = x.state) (desc : y.desc = x.desc)
    (ready : y.ready = x.ready) (inFlight : y.inFlight = x.inFlight) : x.Alike y :=
  .kept state (by rw [desc]) (by rw [desc]) ready inFlight fun h => absurd (hx.symm.trans h) nofun

/-- A movement of a slot that takes stops, and that may then have a held one resolved. -/
theorem State.Sound.movedOn (hs : s.Sound P none none) (hflag : (s.slot i).inFlight = false)
    (hcan : (s.slot i).state.canStop = true) {y : Slot} {t : State} (ht : SameBoard (s.setSlot i y) t)
    (state : y.state = (s.slot i).state) (desc : y.desc = (s.slot i).desc) (ready : y.ready = (s.slot i).ready)
    (inFlight : y.inFlight = (s.slot i).inFlight) :
    t.Sound P none none ∧ (t.slot i).inFlight = false ∧ (t.slot i).state.canStop = true := by
  have hslot : t.slot i = y := by rw [ht.slot, State.slot_setSlot_self]
  refine ⟨(hs.modSlot i (g := fun _ => y) (Slot.alike_of_unflagged hflag state desc ready inFlight)).sameBoard ht, ?_, ?_⟩
  · rw [hslot, inFlight, hflag]
  · rw [hslot, state, hcan]

theorem State.Sound.endWait (hs : s.Sound P none none) (hflag : (s.slot i).inFlight = false)
    (hcan : (s.slot i).state.canStop = true) (noContext ranOut : Bool) :
    (s.endWait i noContext ranOut).Sound P none none := by
  have hend : ∀ o : Ending,
      (if noContext = true then s.complete i { outcome := o } else s.enterAborting i o).Sound P none none := fun o => by
    split
    · exact hs.complete i _
    · exact hs.enterAborting hcan hflag o
  unfold State.endWait
  split
  · exact hend _
  · split
    · exact hend _
    · exact hs

theorem Slot.afterWait_standing (kind : FrameKind) (x : Slot) : (x.afterWait kind).state = x.state ∧
    (x.afterWait kind).desc = x.desc ∧ (x.afterWait kind).ready = x.ready ∧ (x.afterWait kind).inFlight = x.inFlight := by
  rw [Slot.afterWait_eq]
  exact ⟨rfl, rfl, rfl, rfl⟩

/-- A valid reply that the slot takes (R101). -/
theorem State.Sound.slotValid (hs : s.Sound P none none) (ht : s.TakesAt f i) {r : Reply} (hallow : f.kind.allows r = true)
    (hroom : r = .park → (s.station f.station).parked.length < (s.station f.station).parkDepth) : (s.slotValid i f r).Sound P none none := by
  have hflag := hs.unflagged ht.frame i
  obtain ⟨-, haccept, -, htaken, hgive, -, hwait, hpark, -⟩ := f.kind.allows_iff
  have htakes := ht.takes
  cases r with
  | accept =>
    have hk := haccept.mp hallow
    exact hs.slotAccept ht.frame ht.station (Slot.Takes.queued (hk ▸ htakes)) ht.online (ht.unengaged hk)
  | park =>
    have hk := hpark.mp hallow
    simp only [List.mem_cons, List.not_mem_nil, or_false, not_or] at hk
    exact hs.slotPark ht.frame ht.station (htakes.opened hk.2.1 hk.2.2.2).1 ht.online (hroom rfl)
  | taken =>
    have hopened := (Slot.Takes.send (htaken.mp hallow ▸ htakes)).1
    show (s.slotTaken i).Sound P none none
    rw [State.slotTaken_eq]
    obtain ⟨hu, hf, hc⟩ := hs.movedOn hflag (by rw [hopened]; rfl)
      (t := (s.setSlot i (s.slot i).afterTaken).countPayload (min 64 ((s.slot i).len - 64 * (s.slot i).nextIndex)))
      ⟨rfl, rfl, rfl, rfl, rfl, rfl, rfl, rfl⟩ rfl rfl rfl rfl
    exact hu.resolveStop hc hf hu
  | give payload =>
    have hopened := (Slot.Takes.pull ((hgive payload).mp hallow ▸ htakes)).1
    show (s.slotGive i payload).Sound P none none
    rw [State.slotGive_eq]
    obtain ⟨hu, hf, hc⟩ := hs.movedOn hflag (by rw [hopened]; rfl)
      (t := ((s.withMem (chainPutAll s.mem (s.slot i).chain (64 * (s.slot i).nextIndex) payload)).setSlot i
        ((s.slot i).afterGive payload.length)).countPayload payload.length)
      ⟨rfl, rfl, rfl, rfl, rfl, rfl, rfl, rfl⟩ rfl rfl rfl rfl
    exact hu.resolveStop hc hf hu
  | wait =>
    have hk := hwait.mp hallow
    simp only [List.mem_cons, List.not_mem_nil, or_false, not_or] at hk
    obtain ⟨hstate, hdesc, hready, hfl⟩ := (s.slot i).afterWait_standing f.kind
    show (s.slotWait i f.kind).Sound P none none
    rw [State.slotWait_eq]
    obtain ⟨hu, hf, hc⟩ := hs.movedOn hflag (htakes.canStop hk.2.2) (t := s.modSlot i (Slot.afterWait f.kind))
      ⟨rfl, rfl, rfl, rfl, rfl, rfl, rfl, rfl⟩ hstate hdesc hready hfl
    exact hu.endWait hf hc _ _
  | refuse v => exact (hs.modSlot i (Slot.alike_of_unflagged hflag rfl rfl rfl rfl)).complete i _
  | result v => exact hs.complete i _
  | done => exact hs.completePending i false
  | present _ | nothing | ready _ => exact hs

/-- A failed reply without a fault step (R135 to R137, R139). -/
theorem State.Sound.slotFailed (hs : s.Sound P none none) (hflag : (s.slot i).inFlight = false)
    (hcan : (s.slot i).state.canStop = true) (violation : Bool) : (s.slotFailed i violation).Sound P none none := by
  refine hs.resolveStop hcan hflag ?_
  split
  · exact hs.enterAborting hcan hflag _
  · split
    · exact hs.modSlot i (Slot.alike_of_unflagged hflag rfl rfl rfl rfl)
    · exact hs.complete i _

end

end Sys2Proof.Machine

/-! A report's effect on its station keeps slots and stations fitting. -/

namespace Sys2Proof.Machine

section
variable {P : Prop} {held held' : Option StationId} {s : State} {v : StationId}

/-! ## A station that its slots leave -/

/-- A station whose record holds no slot: its slots are on their way. -/
theorem State.Sound.left (hs : s.Sound P held none) {g : Station → Station} (he : (g (s.station v)).engaged = none)
    (hp : (g (s.station v)).parked = []) (hb : (g (s.station v)).backoff = none)
    (ht : (g (s.station v)).pollTimer = .stopped) (honline : (g (s.station v)).state = .online → s.frame = none)
    (hheld : ∀ u, u ≠ v → held = some u → held' = some u := by exact fun _ _ h => h) :
    (s.modStation v g).Sound P held' (some v) := by
  have hself : (s.modStation v g).station v = g (s.station v) := State.station_modStation_self s v g
  have hne : ∀ u, u ≠ v → (s.modStation v g).station u = s.station u := fun u hu => State.station_modStation_ne s v u g hu
  refine ⟨fun u => ?_, fun u => ?_, fun u i hi => ?_, fun u i hi => ?_, hs.named, hs.resting, fun i u hd ha => ?_,
    fun i u hd ha hi => ?_, fun hP u => ?_⟩
  · exact calm_modStation s v (fun _ => Station.quiet_leaveOnline he hp hb ht) u (hs.quiet u)
  · by_cases hu : u = v
    · subst hu
      rw [hself, hp]
      exact ⟨List.nodup_nil, Nat.zero_le _⟩
    · rw [hne u hu]
      exact hs.lists u
  · by_cases hu : u = v
    · subst hu
      rw [hself, he] at hi
      cases hi
    · rw [hne u hu] at hi
      exact hs.engaged u i hi
  · by_cases hu : u = v
    · subst hu
      rw [hself, hp] at hi
      cases hi
    · rw [hne u hu] at hi
      exact hs.parked u i hi
  · rw [hne u fun hu => ha (hu ▸ rfl)]
    exact hs.homed i u hd nofun
  · obtain ⟨f, hm, hrest⟩ := hs.carried i u hd nofun hi
    refine ⟨f, hm, ?_⟩
    rw [hne u fun hu => ha (hu ▸ rfl)]
    exact hrest
  · by_cases hu : u = v
    · subst hu
      refine ⟨⟨fun h => ?_, fun _ => Bool.eq_false_iff.mpr fun hc => ?_⟩, fun h => ?_, fun f hm _ _ ho => ?_⟩
      · rw [hself, ht] at h
        exact h.elim nofun nofun
      · obtain ⟨-, i, hi, -⟩ := (State.pollCondition_iff _ _).mp hc
        rw [hself, hp] at hi
        cases hi
      · rw [hself, ht] at h
        cases h
      · rw [hself] at ho
        have hsome : s.frame = some f := hm
        rw [honline ho] at hsome
        cases hsome
    · refine State.Polled.congr (s := s) ⟨(hs.polled hP u).timer, fun h => ?_, (hs.polled hP u).online⟩ rfl (by rw [hne u hu]) (by rw [hne u hu])
        (State.pollCondition_congr (by rw [hne u hu]) (by rw [hne u hu]) fun _ _ => rfl)
      exact ((hs.polled hP u).held h).imp_left (hheld u hu)

/-- The slots that are left at the station stand by its record again. -/
theorem State.Sound.returned (hs : s.Sound P held (some v))
    (h : ∀ i, (s.slot i).desc.stationId = some v → (s.slot i).Homed i (s.station v) ∧ (s.slot i).inFlight = false) :
    s.Sound P held none := by
  refine ⟨hs.quiet, hs.lists, hs.engaged, hs.parked, hs.named, hs.resting, fun i u hd _ => ?_, fun i u hd _ hi => ?_,
    hs.polled⟩
  · by_cases hu : u = v
    · exact hu ▸ (h i (hu ▸ hd)).1
    · exact hs.homed i u hd fun e => hu (Option.some.inj e).symm
  · by_cases hu : u = v
    · rw [(h i (hu ▸ hd)).2] at hi
      cases hi
    · exact hs.carried i u hd (fun e => hu (Option.some.inj e).symm) hi

/-- No slot is active at the station any more. -/
theorem State.Sound.emptied (hs : s.Sound P held (some v))
    (h : ∀ i, (s.slot i).desc.stationId = some v → (s.slot i).state.isActive = false) : s.Sound P held none :=
  hs.returned fun i hd => by
    obtain ⟨hr, hf⟩ := hs.resting i (h i hd)
    exact ⟨Slot.homed_of_inactive (h i hd) hr i _, hf⟩

/-- A walk that completes every active slot of a station leaves none. -/
theorem State.inactive_completeAll (hlists : s.listsMatch) {p : SlotState → Bool} (hp : ∀ x, p x = true → x.isActive = true)
    (hall : ∀ i, (s.slot i).desc.stationId = some v → (s.slot i).state.isActive = true → p (s.slot i).state = true)
    (o : Ending) (i : SlotId) (hd : ((s.completeAll (s.slotsAt v p) o).slot i).desc.stationId = some v) :
    ((s.completeAll (s.slotsAt v p) o).slot i).state.isActive = false := by
  rw [State.completeAll_eq] at hd ⊢
  have hcompletes := completes_slotsAt hlists v p (fun _ => { outcome := o }) hp
  by_cases hi : i ∈ s.slotsAt v p
  · rw [hcompletes.slot_mem i hi]
    rfl
  · rw [hcompletes.slot_not_mem i hi] at hd ⊢
    refine Bool.eq_false_iff.mpr fun ha => hi (State.mem_slotsAt_iff.mpr ⟨?_, hd, hall i hd ha⟩)
    exact (State.mem_walkOrder_iff hlists i).mpr ha

/-- A station leaves service and all its slots complete. -/
theorem State.Sound.vacated (hs : s.Sound P held (some v)) (hlists : s.listsMatch) {p : SlotState → Bool}
    (hp : ∀ x, p x = true → x.isActive = true)
    (hall : ∀ i, (s.slot i).desc.stationId = some v → (s.slot i).state.isActive = true → p (s.slot i).state = true)
    (o : Ending) : (s.completeAll (s.slotsAt v p) o).Sound P held none :=
  (hs.completeAll _ o).emptied (State.inactive_completeAll hlists hp hall o)

/-- At a station that is not ONLINE no slot is OPEN. -/
theorem State.Sound.not_opened (hs : s.Sound P held none) (hv : (s.station v).state ≠ .online) {i : SlotId}
    (hd : (s.slot i).desc.stationId = some v) : (s.slot i).state ≠ .opened := fun ho => by
  obtain ⟨he, -⟩ := hs.quiet v hv
  rw [(hs.homed i v hd nofun).opened ho] at he
  cases he

/-- At a station that is neither ONLINE nor WITHDRAWING no slot is PARKED. -/
theorem State.Sound.not_parked_of_quiet (hs : s.Sound P held none) (hv : (s.station v).state ≠ .online)
    (hw : (s.station v).state ≠ .withdrawing) {i : SlotId} (hd : (s.slot i).desc.stationId = some v) :
    (s.slot i).state ≠ .parked := fun hp => by
  obtain ⟨-, hempty, -⟩ := hs.quiet v hv
  rcases (hs.homed i v hd nofun).parked hp with h | h
  · rw [hempty] at h
    cases h
  · exact hw h

theorem SlotState.isActive_of_queued_or_aborting {x : SlotState} (h : (decide (x = .queued) || decide (x = .aborting)) = true) :
    x.isActive = true := by
  revert h
  cases x <;> decide

theorem SlotState.isActive_of_withdrawn {x : SlotState}
    (h : (decide (x = .queued) || decide (x = .parked) || decide (x = .aborting)) = true) : x.isActive = true := by
  revert h
  cases x <;> decide

theorem SlotState.cases_of_isActive {x : SlotState} (h : x.isActive = true) (ho : x ≠ .opened) :
    (decide (x = .queued) || decide (x = .parked) || decide (x = .aborting)) = true := by
  revert h ho
  cases x <;> decide

theorem SlotState.queued_or_aborting {x : SlotState} (h : x.isActive = true) (ho : x ≠ .opened) (hp : x ≠ .parked) :
    (decide (x = .queued) || decide (x = .aborting)) = true := by
  revert h ho hp
  cases x <;> decide

/-- A station that is neither ONLINE nor WITHDRAWING leaves service, and its slots complete (R67, R69). -/
theorem State.Sound.retired (hs : s.Sound P held none) (hlists : s.listsMatch) (hv : (s.station v).state ≠ .online)
    (hw : (s.station v).state ≠ .withdrawing) {g : Station → Station}
    (hg : (g (s.station v)).engaged = (s.station v).engaged ∧ (g (s.station v)).parked = (s.station v).parked ∧
      (g (s.station v)).backoff = (s.station v).backoff ∧ (g (s.station v)).pollTimer = (s.station v).pollTimer)
    (hstate : (g (s.station v)).state ≠ .online) (o : Ending) :
    ((s.modStation v g).completeAll (s.slotsAt v fun x => decide (x = .queued) || decide (x = .aborting)) o).Sound P held
      none := by
  obtain ⟨he, hp, hb, ht⟩ := hs.quiet v hv
  obtain ⟨he', hp', hb', ht'⟩ := hg
  have hleft := hs.left (held' := held) (g := g) (he'.trans he) (hp'.trans hp) (hb'.trans hb) (ht'.trans ht) fun h => absurd h hstate
  exact hleft.vacated (p := fun x => decide (x = .queued) || decide (x = .aborting))
    ((sameTables_modStation s v g).changes.listsMatch hlists)
    (fun _ => SlotState.isActive_of_queued_or_aborting)
    (fun i hd ha => SlotState.queued_or_aborting ha (hs.not_opened hv hd) (hs.not_parked_of_quiet hv hw hd)) o

theorem State.Sound.disableAtOnce (hs : s.Sound P held none) (hlists : s.listsMatch)
    (h : (s.station v).state = .probing ∨ (s.station v).state = .absent ∨ (s.station v).state = .faulty) :
    (s.disableAtOnce v).Sound P held none := by
  refine hs.retired hlists ?_ ?_ (g := fun r => r.disable) ⟨rfl, rfl, rfl, rfl⟩ nofun .withdrawn
  all_goals rcases h with h | h | h <;> rw [h] <;> nofun

theorem State.Sound.probeFailed (hs : s.Sound P held none) (hlists : s.listsMatch) (h : (s.station v).state = .probing) :
    (s.probeFailed v).Sound P held none := by
  unfold State.probeFailed
  dsimp only
  split
  · exact hs.retired hlists (by rw [h]; nofun) (by rw [h]; nofun) (g := fun r =>
      { r with state := .absent, probeAttempts := 0, parkDepth := 0, failures := 0, changed := true })
      ⟨rfl, rfl, rfl, rfl⟩ nofun .noStation
  · exact hs.modStation v ⟨rfl, rfl, rfl, rfl, fun _ => id, .inl rfl⟩

/-- The end of a withdrawal (R71). -/
theorem State.Sound.finishWithdrawal (hs : s.Sound P held none) (hlists : s.listsMatch)
    (h : (s.station v).state = .withdrawing) : (s.finishWithdrawal v).Sound P held none := by
  have hleft := hs.left (held' := held) (v := v) (g := fun r => r.endWithdrawal) rfl rfl rfl rfl nofun
  exact hleft.vacated (p := fun x => decide (x = .queued) || decide (x = .parked) || decide (x = .aborting))
    ((sameTables_modStation s v _).changes.listsMatch hlists) (fun _ => SlotState.isActive_of_withdrawn)
    (fun i hd ha => SlotState.cases_of_isActive ha (hs.not_opened (by rw [h]; nofun) hd)) .withdrawn

theorem State.Sound.withdrawFailed (hs : s.Sound P held none) (hlists : s.listsMatch)
    (h : (s.station v).state = .withdrawing) : (s.withdrawFailed v).Sound P held none := by
  unfold State.withdrawFailed
  split
  · exact hs.finishWithdrawal hlists h
  · exact hs.modStation v ⟨rfl, rfl, rfl, rfl, fun _ => id, .inl rfl⟩

theorem State.Sound.foldl {away : Option StationId} {h : State → SlotId → State} (ids : List SlotId)
    (hh : ∀ (t : State) i, t.Sound P held away → (h t i).Sound P held away) (hs : s.Sound P held away) :
    (ids.foldl h s).Sound P held away := by
  induction ids generalizing s with
  | nil => exact hs
  | cons i ids ih => exact ih (hh s i hs)

/-- A PROBING station that goes ONLINE has only QUEUED and ABORTING slots (R68). -/
theorem State.Sound.probeAnswered (hs : s.Sound P held none) (hf : s.frame = none) (h : (s.station v).state = .probing)
    (d : Nat) : (s.probeAnswered v d).Sound P held none := by
  have hne : (s.station v).state ≠ .online := by rw [h]; nofun
  have hnw : (s.station v).state ≠ .withdrawing := by rw [h]; nofun
  obtain ⟨he, hp, hb, ht⟩ := hs.quiet v hne
  have honline : (s.modStation v fun r => r.goOnline d).Sound P held none := by
    refine (hs.left (held' := held) (g := fun r => r.goOnline d) he hp hb ht fun _ => hf).returned fun i hd => ⟨?_, hs.unflagged hf i⟩
    have hparked := hs.not_parked_of_quiet hne hnw hd
    refine ⟨fun ho => absurd ho (hs.not_opened hne hd), fun hx => absurd hx hparked, fun hr => ?_, fun _ => ?_⟩
    · exact absurd ((hs.homed i v hd nofun).ready hr).1 hparked
    · rw [State.station_modStation_self]
      exact ⟨nofun, nofun, nofun⟩
  exact State.Sound.foldl _ (fun t i ht => ht.modSlot i (.kept rfl rfl rfl rfl rfl fun _ => rfl))
    (State.Sound.foldl _ (fun t i ht => ht.completePending i false) honline)

/-- The report of a SYNC (R68, R69, R71). -/
theorem State.Sound.reportSync (hs : s.Sound P held none) (hlists : s.listsMatch) (hf : s.frame = none) (o : FrameOutcome) :
    (s.reportSync v o).Sound P held none := by
  unfold State.reportSync
  split
  next hst => exact hs.probeAnswered hf hst _
  next hst _ => exact hs.probeFailed hlists hst
  next hst => exact hs.finishWithdrawal hlists hst
  next hst _ => exact hs.withdrawFailed hlists hst
  all_goals exact hs

/-! ## The failure count and the backoff timer -/

theorem State.Sound.clearFailures (hs : s.Sound P held none) : (s.clearFailures v).Sound P held none := by
  unfold State.clearFailures
  split
  · exact hs.modStation v ⟨rfl, rfl, rfl, rfl, fun _ => id, .inl rfl⟩
  · exact hs

theorem State.Sound.countFailure (hs : s.Sound P held none) : (s.countFailure v).Sound P held none := by
  unfold State.countFailure
  split
  · exact hs.modStation v ⟨rfl, rfl, rfl, rfl, fun _ => id, .inl rfl⟩
  · exact hs

theorem State.Sound.startBackoff (hs : s.Sound P held none) : (s.startBackoff v).Sound P held none := by
  unfold State.startBackoff
  split
  next h => exact hs.modStation v ⟨rfl, rfl, rfl, rfl, fun hne => absurd h hne, .inl rfl⟩
  next => exact hs

/-! ## The fault step -/

/-- A rule that completes slots of a station on their way, with the lists matching. -/
def Completing (P : Prop) (held : Option StationId) (v : StationId) (cause : State → State) : Prop :=
  ∀ t : State, t.Sound P held (some v) → t.listsMatch → (cause t).Sound P held (some v) ∧ (cause t).listsMatch

theorem Stages.listsMatch {t : State} (h : Stages s t) (hs : s.listsMatch) : t.listsMatch :=
  h.preserves (fun _ _ hc => hc.keeps_listsMatch) hs

theorem State.listsMatch_completePending (i : SlotId) (b : Bool) (hs : s.listsMatch) :
    (s.completePending i b).listsMatch := by
  unfold State.completePending
  split
  · exact State.listsMatch_complete i _ hs
  · exact hs

theorem completing_id : Completing P held v id := fun _ h hl => ⟨h, hl⟩

theorem completing_complete (i : SlotId) (r : State → Result) : Completing P held v fun t => t.complete i (r t) :=
  fun _ h hl => ⟨h.complete i _, State.listsMatch_complete i _ hl⟩

theorem completing_endAbort (i : SlotId) (violation : Bool) : Completing P held v fun t => t.endAbort i violation := by
  intro t h hl
  have halike : (t.slot i).Alike { t.slot i with
      abortAttempts := if (t.slot i).abortEnds violation then 0 else (t.slot i).abortAttempts } :=
    .kept rfl rfl rfl rfl rfl fun _ => rfl
  exact ⟨(h.modSlot i halike).completePending i true,
    State.listsMatch_completePending i true ((stages_modSlot t i halike).listsMatch hl)⟩

theorem completing_completeCause (i : SlotId) (kind : FrameKind) (violation : Bool) :
    Completing P held v fun t => t.completeCause i kind violation := by
  cases kind with
  | abort => exact completing_endAbort i violation
  | sync | poll => exact completing_id
  | openReq | send | pull | finish => exact completing_complete i _

theorem State.Sound.faultStep (hs : s.Sound P held none) (hlists : s.listsMatch) {cause : State → State}
    (hc : Completing P held' v cause) (hheld : ∀ u, u ≠ v → held = some u → held' = some u := by exact fun _ _ h => h) :
    (s.faultStep v cause).Sound P held' none := by
  obtain ⟨hsound, hl⟩ := hc _ (hs.left (g := fun r => r.fault) rfl rfl rfl rfl nofun hheld)
    ((sameTables_modStation s v _).changes.listsMatch hlists)
  exact hsound.vacated hl (p := SlotState.isActive) (fun _ h => h) (fun _ _ h => h) .stationFault

end

end Sys2Proof.Machine

/-! The whole report keeps slots and stations fitting. -/

namespace Sys2Proof.Machine

section
variable {P : Prop} {s : State} {v : StationId}

/-! ## The end of a POLL -/

/-- A record whose failure count alone has changed. -/
theorem State.station_clearFailures (s : State) (v : StationId) :
    ∃ n, (s.clearFailures v).station v = { s.station v with failures := n } := by
  unfold State.clearFailures
  split
  · exact ⟨0, State.station_modStation_self ..⟩
  · exact ⟨_, rfl⟩

/-- The held poll timer starts again or stops, by the poll condition (R76, R127). -/
theorem State.Sound.restartPollTimer (hs : s.Sound P (some v) none) (hf : s.frame = none) :
    (s.restartPollTimer v).Sound P none none := by
  have hcalm := calm_restartPollTimer s v
  have hother : P → ∀ u, u ≠ v → s.Polled none u := fun hP u hu =>
    ⟨(hs.polled hP u).timer, fun h => ((hs.polled hP u).held h).imp_left fun e => absurd (Option.some.inj e).symm hu,
      (hs.polled hP u).online⟩
  unfold State.restartPollTimer at hcalm ⊢
  split at hcalm
  next hheld =>
    rw [if_pos hheld]
    have hself := State.station_modStation_self s v fun r =>
      { r with pollTimer := if s.pollCondition v = true then .running s.cfg.pollInterval else .stopped }
    have hne := fun u => State.station_modStation_ne s v u fun r =>
      { r with pollTimer := if s.pollCondition v = true then .running s.cfg.pollInterval else .stopped }
    generalize hp : (if s.pollCondition v = true then PollTimer.running s.cfg.pollInterval else .stopped) = p at *
    have hsame : ∀ u, ((s.modStation v fun r => { r with pollTimer := p }).station u).state = (s.station u).state ∧
        ((s.modStation v fun r => { r with pollTimer := p }).station u).engaged = (s.station u).engaged ∧
        ((s.modStation v fun r => { r with pollTimer := p }).station u).parked = (s.station u).parked ∧
        ((s.modStation v fun r => { r with pollTimer := p }).station u).parkDepth = (s.station u).parkDepth := fun u => by
      by_cases hu : u = v
      · subst hu
        rw [hself]
        exact ⟨rfl, rfl, rfl, rfl⟩
      · rw [hne u hu]
        exact ⟨rfl, rfl, rfl, rfl⟩
    refine hs.standing (fun _ => ⟨rfl, rfl, rfl⟩) hsame (fun u => hcalm u (hs.quiet u))
      (fun i hi => absurd ((hs.unflagged hf i).symm.trans hi) nofun) fun hP u => ?_
    obtain ⟨hstate, -, hparked, -⟩ := hsame u
    have hcond : (s.modStation v fun r => { r with pollTimer := p }).pollCondition u = s.pollCondition u :=
      State.pollCondition_congr hstate hparked fun _ _ => rfl
    by_cases hu : u = v
    · subst hu
      refine ⟨?_, fun h => ?_, fun f hm => ?_⟩
      · rw [hcond, hself, ← hp]
        split
        next hc => exact ⟨fun _ => hc, nofun⟩
        next hc => exact ⟨fun h => h.elim nofun nofun, fun _ => Bool.eq_false_iff.mpr hc⟩
      · rw [hself, ← hp] at h
        dsimp only at h
        split at h <;> cases h
      · have hsome : s.frame = some f := hm
        rw [hf] at hsome
        cases hsome
    · exact (hother hP u hu).congr rfl hstate (by rw [hne u hu]) hcond
  next hnot =>
    rw [if_neg hnot]
    refine ⟨hs.quiet, hs.lists, hs.engaged, hs.parked, hs.named, hs.resting, hs.homed, hs.carried, fun hP u => ?_⟩
    by_cases hu : u = v
    · subst hu
      exact ⟨(hs.polled hP u).timer, fun h => absurd h hnot, (hs.polled hP u).online⟩
    · exact hother hP u hu

/-- A parked slot is made ready at its ONLINE station, whose poll timer is held (R126, R128). -/
theorem State.Sound.takeReady (hs : s.Sound P (some v) none) (hf : s.frame = none)
    (hheld : P → (s.station v).state = .online → (s.station v).pollTimer = .held) {tag : SlotId}
    (htag : tag ∈ (s.station v).parked) : (s.takeReady v tag).Sound P (some v) none := by
  unfold State.takeReady
  split
  next honline =>
    obtain ⟨hparked, hd⟩ := hs.parked v tag htag
    have hslot := State.slot_modSlot_self s tag fun x => { x with ready := true }
    refine hs.moved (i := tag) (v := v) {
      slot_ne := fun j hj => State.slot_modSlot_ne s tag j _ hj
      station_ne := fun _ _ => rfl
      frame := rfl
      before := hd
      after := by rw [hslot]; exact hd
      state := rfl
      lists := hs.lists v
      engaged_ne := fun _ _ => .rfl
      parked_ne := fun _ _ => .rfl
      flags := fun _ _ _ h => h
      engaged_self := fun h => by rw [hslot]; exact (hs.engaged v tag h).1
      parked_self := fun _ => by rw [hslot]; exact hparked
      homed := ?_
      resting := fun h => by rw [hslot] at h; exact absurd (hparked ▸ h) nofun
      unflagged := by rw [hslot]; exact hs.unflagged hf tag } (calm_modSlot s tag _) fun hP => ?_
    · have hhome := hs.homed tag v hd nofun
      rw [hslot]
      exact ⟨hhome.opened, hhome.parked, fun _ => ⟨hparked, htag⟩, hhome.served⟩
    · have htimer : ((s.modSlot tag fun x => { x with ready := true }).station v).pollTimer = .held := hheld hP honline
      refine ⟨?_, fun _ => .inl rfl, fun f hm => ?_⟩
      · rw [htimer]
        exact ⟨fun h => h.elim nofun nofun, nofun⟩
      · have hsome : s.frame = some f := hm
        rw [hf] at hsome
        cases hsome
  next => exact hs

/-- The report of a POLL (R72, R73, R76, R128). -/
theorem State.Sound.reportPoll (hs : s.Sound P (some v) none) (hlists : s.listsMatch) (hf : s.frame = none)
    (hheld : P → (s.station v).state = .online → (s.station v).pollTimer = .held) {o : FrameOutcome}
    (ho : ∀ tag, o = .valid (.ready tag) → tag ∈ (s.station v).parked) : (s.reportPoll v o).Sound P none none := by
  have hclear : (s.clearFailures v).frame = none := (reportScope_clearFailures s v).frame.trans hf
  have hcount : (s.countFailure v).frame = none := (reportScope_countFailure s v).frame.trans hf
  unfold State.reportPoll
  split
  next r =>
    obtain ⟨n, hstation⟩ := s.station_clearFailures v
    dsimp only
    split
    next tag =>
      refine State.Sound.restartPollTimer (hs.clearFailures.takeReady hclear ?_ ?_) ?_
      · rw [hstation]
        exact hheld
      · rw [hstation]
        exact ho tag rfl
      · exact (reportScope_takeReady _ v tag).frame.trans hclear
    next => exact hs.clearFailures.restartPollTimer hclear
  next =>
    dsimp only
    split
    · exact hs.countFailure.faultStep ((sameTables_countFailure s v).changes.listsMatch hlists) completing_id
        fun u hu h => absurd (Option.some.inj h).symm hu
    · exact hs.countFailure.restartPollTimer hcount

/-! ## The report of a slot's frame -/

theorem State.Sound.slotFailure {f : Frame} {i : SlotId} (hs : s.Sound P none none) (hlists : s.listsMatch)
    (hflag : (s.slot i).inFlight = false) (ht : (s.slot i).Takes f.kind f.index) (violation : Bool) :
    (s.slotFailure i f violation).Sound P none none := by
  have hfailed : f.kind ≠ .abort → (s.slotFailed i violation).Sound P none none := fun hk =>
    hs.slotFailed hflag (ht.canStop hk) violation
  unfold State.slotFailure
  split
  next =>
    unfold State.abortFailed
    split
    · exact hs.faultStep hlists (completing_endAbort i violation)
    · exact hs.modSlot i (.kept rfl rfl rfl rfl rfl fun _ => rfl)
  next hk => exact hfailed (by rw [hk]; nofun)
  next hk => exact hfailed (by rw [hk]; nofun)
  next hk => exact hfailed (by rw [hk]; nofun)
  next hk => exact hfailed (by rw [hk]; nofun)
  next => exact hs
  next => exact hs

theorem State.Sound.reportFailure {f : Frame} {tk : Option SlotId} (hs : s.Sound P none none) (hlists : s.listsMatch)
    (ht : ∀ i, tk = some i → s.TakesAt f i) (violation : Bool) : (s.reportFailure f tk violation).Sound P none none := by
  have hcounted : (s.countFailure f.station).listsMatch := (sameTables_countFailure s _).changes.listsMatch hlists
  unfold State.reportFailure
  dsimp only
  split
  · refine hs.countFailure.faultStep hcounted ?_
    cases tk with
    | none => exact completing_id
    | some i => exact completing_completeCause i f.kind violation
  · cases tk with
    | none => exact hs.countFailure
    | some i =>
      have hslot : (s.countFailure f.station).slot i = s.slot i := (sameTables_countFailure s _).slot i
      refine hs.countFailure.slotFailure hcounted ?_ ?_ violation
      · rw [hslot]
        exact hs.unflagged (ht i rfl).frame i
      · rw [hslot]
        exact (ht i rfl).takes

/-- Neither the failure count nor the backoff timer bears on what a slot takes. -/
theorem State.TakesAt.aside {f : Frame} {i : SlotId} {t : State} (h : s.TakesAt f i) (hslot : t.slot i = s.slot i)
    (hframe : t.frame = s.frame) (hstate : (t.station f.station).state = (s.station f.station).state)
    (hengaged : (t.station f.station).engaged = (s.station f.station).engaged) : t.TakesAt f i :=
  ⟨hframe.trans h.frame, by rw [hslot]; exact h.takes, by rw [hslot]; exact h.station, hstate.trans h.online,
    fun hk => hengaged.trans (h.unengaged hk)⟩

theorem State.takesAt_clearFailures {f : Frame} {i : SlotId} (h : s.TakesAt f i) : (s.clearFailures f.station).TakesAt f i := by
  obtain ⟨n, hstation⟩ := s.station_clearFailures f.station
  exact h.aside (s.slot_clearFailures _ i) (reportScope_clearFailures s _).frame (by rw [hstation]) (by rw [hstation])

theorem State.takesAt_startBackoff {f : Frame} {i : SlotId} (h : s.TakesAt f i) : (s.startBackoff f.station).TakesAt f i := by
  have hstation : (s.startBackoff f.station).station f.station =
      { s.station f.station with backoff := some s.cfg.backoffInterval } := by
    rw [State.startBackoff, if_pos h.online]
    exact State.station_modStation_self ..
  exact h.aside ((sameTables_startBackoff s _).slot i) (reportScope_startBackoff s _).frame (by rw [hstation]) (by rw [hstation])

theorem State.Sound.reportValid {f : Frame} {tk : Option SlotId} (hs : s.Sound P none none)
    (ht : ∀ i, tk = some i → s.TakesAt f i) {r : Reply} (hallow : f.kind.allows r = true) (hfit : s.replyFits f r = true) :
    (s.reportValid f tk r).Sound P none none := by
  have hfirst : (if r = .wait then (s.clearFailures f.station).startBackoff f.station else s.clearFailures f.station).Sound P
      none none := by
    split
    · exact hs.clearFailures.startBackoff
    · exact hs.clearFailures
  unfold State.reportValid
  cases tk with
  | none => exact hfirst
  | some i =>
    refine hfirst.slotValid ?_ hallow ?_
    · split
      · exact State.takesAt_startBackoff (State.takesAt_clearFailures (ht i rfl))
      · exact State.takesAt_clearFailures (ht i rfl)
    · rintro rfl
      obtain ⟨n, hstation⟩ := s.station_clearFailures f.station
      rw [if_neg nofun, hstation]
      exact of_decide_eq_true hfit

/-! ## The end of the frame and the whole report -/

/-- The station whose POLL has ended, and whose poll timer may be held over no frame. -/
def Frame.polled (f : Frame) : Option StationId := if f.kind = .poll then some f.station else none

/-- A frame has ended: no frame is in flight and no flag is set (R52, R60). -/
theorem State.Sound.ended {f : Frame} {t : State} (hs : s.Sound P none none) (hf : s.frame = some f) (hnone : t.frame = none)
    (hstation : ∀ v, t.station v = s.station v)
    (hslot : ∀ i, t.slot i = { s.slot i with inFlight := if f.slot = some i then false else (s.slot i).inFlight }) :
    t.Sound P f.polled none := by
  have hflag : ∀ i, (t.slot i).inFlight = false := fun i => by
    rw [hslot]
    show (if f.slot = some i then false else (s.slot i).inFlight) = false
    split
    · rfl
    next hne =>
      refine Bool.eq_false_iff.mpr fun hi => ?_
      obtain ⟨-, hslots⟩ := hs.engagement
      obtain ⟨-, -, -, -, hfits⟩ := hslots i
      obtain ⟨g, hg, hgi, -⟩ := hfits hi
      cases Option.some.inj (hf.symm.trans hg)
      exact hne hgi
  refine hs.standing (fun i => by rw [hslot]; exact ⟨rfl, rfl, rfl⟩) (fun v => by rw [hstation]; exact ⟨rfl, rfl, rfl, rfl⟩)
    (fun v => by rw [hstation]; exact hs.quiet v) (fun i hi => absurd ((hflag i).symm.trans hi) nofun) fun hP v => ?_
  have hcond : t.pollCondition v = s.pollCondition v :=
    State.pollCondition_congr (by rw [hstation]) (by rw [hstation]) fun i _ => by rw [hslot]
  have hp := hs.polled hP v
  refine ⟨by rw [hstation, hcond]; exact hp.timer, fun h => .inl ?_, fun g hg => ?_⟩
  · rw [hstation] at h
    obtain ⟨g, hg, hk, hv⟩ := (hp.held h).resolve_left nofun
    cases Option.some.inj (hf.symm.trans hg)
    rw [Frame.polled, if_pos hk, hv]
  · have hsome : t.frame = some g := hg
    rw [hnone] at hsome
    cases hsome

theorem State.takesAt_counted {f : Frame} (hs : s.Sound P none none) (hf : s.frame = some f) (gap : Bool) (o : FrameOutcome)
    {i : SlotId} (h : s.slotTaking f = some i) : (s.counted f gap o).TakesAt f i := by
  obtain ⟨hd, honline, hopen⟩ := State.online_of_slotTaking hs.engagement hf h
  refine ⟨(s.endFrame_line f gap).1, State.takes_counted h gap o, ?_, ?_, fun hk => ?_⟩
  · rw [State.slot_counted]
    exact hd
  · rw [State.station_counted]
    exact honline
  · rw [State.station_counted]
    exact hopen hk

/-- Slots and stations fit after the tables have taken a report (R58). -/
theorem State.Sound.told {f : Frame} {o : FrameOutcome} (hs : s.Sound P none none) (hlists : s.listsMatch)
    (hf : s.frame = some f) (gap : Bool) (ho : s.outcomeFits f o) : (s.told f gap o).Sound P none none := by
  have hcounted := hs.ended (t := s.counted f gap o) hf (s.endFrame_line f gap).1 (s.station_counted f gap o) (s.slot_counted f gap o)
  have hlists' : (s.counted f gap o).listsMatch := by
    refine Changes.listsMatch (.trans (changes_endFrame s f gap) (SameTables.changes ?_)) hlists
    exact ⟨rfl, rfl, rfl, rfl, rfl, rfl, rfl, le_rfl⟩
  have hnone : (s.counted f gap o).frame = none := (s.endFrame_line f gap).1
  refine State.Sound.sameBoard (s := (s.counted f gap o).reportTables f (s.slotTaking f) o) ?_
    ⟨rfl, rfl, rfl, rfl, rfl, rfl, rfl, rfl⟩
  have hother : f.kind ≠ .poll → (s.counted f gap o).Sound P none none := fun hk => by
    rw [Frame.polled, if_neg hk] at hcounted
    exact hcounted
  have htakes := fun i => State.takesAt_counted (i := i) hs hf gap o
  unfold State.reportTables
  split
  next hk => exact (hother (by rw [hk]; nofun)).reportSync hlists' hnone _
  next hk =>
    rw [Frame.polled, if_pos hk] at hcounted
    refine hcounted.reportPoll hlists' hnone (fun hP honline => ?_) fun tag hr => ?_
    · rw [State.station_counted] at honline ⊢
      exact (hs.polled hP f.station).online f hf hk rfl honline
    · rw [State.station_counted]
      have hfit : s.replyFits f (.ready tag) = true := (ho _ hr).2.1
      exact List.contains_iff_mem.mp hfit
  next hk =>
    obtain ⟨hallow, hfit, -⟩ := ho _ rfl
    exact (hother hk).reportValid htakes hallow (by rw [State.replyFits_counted]; exact hfit)
  next hk => exact (hother hk).reportFailure hlists' htakes _
  next hk => exact (hother hk).reportFailure hlists' htakes _
  next hk => exact (hother hk).reportFailure hlists' htakes _

end

end Sys2Proof.Machine

/-! Every stage, and so every step, keeps slots and stations fitting. -/

namespace Sys2Proof.Machine

/-- A station in service that is not WITHDRAWING is PROBING when the link is down (R78). -/
theorem Station.served_linkDown {r : Station} (h : r.state ≠ .disabled ∧ r.state ≠ .absent ∧ r.state ≠ .faulty)
    (hw : r.state ≠ .withdrawing) :
    r.linkDown.state ≠ .disabled ∧ r.linkDown.state ≠ .absent ∧ r.linkDown.state ≠ .faulty := by
  obtain ⟨honline, hprobing, -⟩ := r.linkDown_cases
  obtain ⟨hdisabled, habsent, hfaulty⟩ := h
  cases hr : r.state with
  | online => rw [honline hr]; exact ⟨nofun, nofun, nofun⟩
  | probing => rw [hprobing hr]; exact ⟨hdisabled, habsent, hfaulty⟩
  | withdrawing => exact absurd hr hw
  | disabled => exact absurd hr hdisabled
  | absent => exact absurd hr habsent
  | faulty => exact absurd hr hfaulty

section
variable {P : Prop} {s : State}

/-! ## A slot that is queued -/

theorem State.Sound.enqueueSlot (hs : s.Sound P none none) {i : SlotId} (hclaimed : (s.slot i).state = .claimed)
    (hp : postRefusal (s.slot i) s.freeList.length = none) {v : StationId} (hd : (s.slot i).desc.stationId = some v)
    (hst : (s.station v).state = .probing ∨ (s.station v).state = .online ∨ (s.station v).state = .withdrawing) :
    (s.enqueueSlot i).Sound P none none := by
  have hle := Slot.reservation_le_of_postRefusal hp
  have hslot : (s.enqueueSlot i).slot i = s.queuedSlot i := by rw [State.slot_enqueueSlot hle, if_pos rfl]
  have hslot_ne : ∀ j, j ≠ i → (s.enqueueSlot i).slot j = s.slot j := fun j hj => by
    rw [State.slot_enqueueSlot hle, if_neg hj]
  have hstation : ∀ u, (s.enqueueSlot i).station u = s.station u := fun u => State.enqueueSlot_eq hle ▸ rfl
  have hframe : (s.enqueueSlot i).frame = s.frame := State.enqueueSlot_eq hle ▸ rfl
  obtain ⟨hengaged, hparked⟩ := hs.unheld (SlotState.not_isActive_of_claimed hclaimed) v
  refine hs.moved (i := i) (v := v) {
    slot_ne := hslot_ne
    station_ne := fun u _ => hstation u
    frame := hframe
    before := hd
    after := by rw [hslot]; exact hd
    state := by rw [hstation]
    lists := by rw [hstation]; exact hs.lists v
    engaged_ne := fun j _ => by rw [hstation]
    parked_ne := fun j _ => by rw [hstation]
    flags := fun j _ _ he => by rw [hstation]; exact he
    engaged_self := fun he => by rw [hstation] at he; exact absurd he hengaged
    parked_self := fun hi => by rw [hstation] at hi; exact absurd hi hparked
    homed := ?_
    resting := fun _ => by rw [hslot]; rfl
    unflagged := by rw [hslot]; rfl } (calm_of_stations (State.enqueueSlot_eq hle ▸ rfl)) fun hP =>
      (hs.polled hP v).congr hframe (by rw [hstation]) (by rw [hstation])
        (State.pollCondition_congr (by rw [hstation]) (by rw [hstation]) fun j hj => by
          rw [hslot_ne j fun e => hparked (e ▸ hj)])
  rw [hslot, hstation]
  refine ⟨nofun, nofun, nofun, fun _ => ?_⟩
  rcases hst with h | h | h <;> rw [h] <;> exact ⟨nofun, nofun, nofun⟩

/-! ## ENABLE_STATION and the start of a withdrawal -/

theorem State.Sound.enable (hs : s.Sound P none none) {v : StationId}
    (h : (s.station v).state = .disabled ∨ (s.station v).state = .absent ∨ (s.station v).state = .faulty) :
    (s.modStation v Station.enable).Sound P none none := by
  refine (hs.left (held' := none) (g := Station.enable) rfl rfl rfl rfl (by simp [Station.enable])).emptied fun i hd => ?_
  refine Bool.eq_false_iff.mpr fun ha => ?_
  obtain ⟨hdisabled, habsent, hfaulty⟩ := (hs.homed i v hd nofun).served ha
  exact h.elim hdisabled fun h => h.elim habsent hfaulty

theorem State.carries_of_frame {v : StationId} {i : SlotId} {f : Frame} (hf : f ∈ s.frame) (hslot : f.slot = some i)
    (hst : f.station = v) : s.carries v i = true := by
  rw [State.carries, show s.frame = some f from hf, Option.any_some]
  exact decide_eq_true ⟨hst, hslot⟩

theorem State.slotBegun_of_not_engaged {v : StationId} {i : SlotId} (h : (s.station v).engaged ≠ some i) :
    s.slotBegun v i = { s.slot i with
      ready := (s.slot i).ready && !decide (i ∈ (s.station v).parked)
      inFlight := (s.slot i).inFlight && !s.carries v i } := by
  rw [State.slotBegun, if_neg h]

theorem State.slotBegun_engaged {v : StationId} {i : SlotId} (h : (s.station v).engaged = some i) :
    s.slotBegun v i = (s.slot i).completed { outcome := .withdrawn } := by
  rw [State.slotBegun, if_pos h]
  rfl

/-- The start of a withdrawal (R70). -/
theorem State.Sound.startWithdrawal (hs : s.Sound P none none) (hlists : s.listsMatch) (v : StationId) :
    (s.startWithdrawal v).Sound P none none := by
  obtain ⟨hnodup, hlen⟩ := hs.lists v
  obtain ⟨-, hslot, hself, hne, honly⟩ := withdrawalBegun hlists (hs.engaged v) ⟨hnodup, hlen, hs.parked v⟩
  have hframe := (reportScope_startWithdrawal s v).frame
  have hcalm := calm_startWithdrawal s v
  generalize s.startWithdrawal v = t at *
  have hengaged : ∀ i, (s.station v).engaged = some i → t.slot i = (s.slot i).completed { outcome := .withdrawn } :=
    fun i h => (hslot i).trans (State.slotBegun_engaged h)
  have hkept : ∀ i, (s.station v).engaged ≠ some i → t.slot i = { s.slot i with
      ready := (s.slot i).ready && !decide (i ∈ (s.station v).parked)
      inFlight := (s.slot i).inFlight && !s.carries v i } :=
    fun i h => (hslot i).trans (State.slotBegun_of_not_engaged h)
  have helsewhere : ∀ {i u}, (s.slot i).desc.stationId = some u → u ≠ v →
      (s.station v).engaged ≠ some i ∧ i ∉ (s.station v).parked := fun hd hu =>
    ⟨fun h => hu (Option.some.inj (hd.symm.trans (hs.engaged v _ h).2)),
      fun h => hu (Option.some.inj (hd.symm.trans (hs.parked v _ h).2))⟩
  have hdesc : ∀ i, (t.slot i).desc = (s.slot i).desc := fun i => by
    by_cases h : (s.station v).engaged = some i
    · rw [hengaged i h]
      rfl
    · rw [hkept i h]
  have hactive : ∀ i, (t.slot i).state.isActive = true → (s.station v).engaged ≠ some i := fun i ha h => by
    rw [hengaged i h] at ha
    cases ha
  refine ⟨fun u => hcalm u (hs.quiet u), fun u => ?_, fun u i hi => ?_, fun u i hi => ?_, fun i hi => ?_, fun i hi => ?_,
    fun i u hd _ => ?_, fun i u hd _ hi => ?_, fun hP u => ?_⟩
  · by_cases hu : u = v
    · subst hu
      rw [hself]
      exact ⟨List.nodup_nil, Nat.zero_le _⟩
    · rw [hne u hu]
      exact hs.lists u
  · by_cases hu : u = v
    · subst hu
      rw [hself] at hi
      cases hi
    · rw [hne u hu] at hi
      obtain ⟨hstate, hd⟩ := hs.engaged u i hi
      rw [hkept i (helsewhere hd hu).1]
      exact ⟨hstate, hd⟩
  · by_cases hu : u = v
    · subst hu
      rw [hself] at hi
      cases hi
    · rw [hne u hu] at hi
      obtain ⟨hstate, hd⟩ := hs.parked u i hi
      rw [hkept i (helsewhere hd hu).1]
      exact ⟨hstate, hd⟩
  · rw [hdesc]
    rw [hkept i (hactive i hi)] at hi
    exact hs.named i hi
  · by_cases h : (s.station v).engaged = some i
    · rw [hengaged i h]
      exact ⟨rfl, rfl⟩
    · rw [hkept i h] at hi ⊢
      obtain ⟨hr, hf⟩ := hs.resting i hi
      exact ⟨by rw [hr]; rfl, by rw [hf]; rfl⟩
  · by_cases h : (s.station v).engaged = some i
    · rw [hengaged i h]
      exact Slot.homed_of_inactive rfl rfl i _
    · rw [hdesc] at hd
      have hhome := hs.homed i u hd nofun
      rw [hkept i h]
      by_cases hu : u = v
      · subst hu
        rw [hself]
        refine ⟨fun ho => absurd (hhome.opened ho) h, fun _ => .inr rfl, fun hr => ?_, fun _ => ⟨nofun, nofun, nofun⟩⟩
        obtain ⟨hready, hnot⟩ := Bool.and_eq_true_iff.mp hr
        rw [decide_eq_true (hhome.ready hready).2] at hnot
        cases hnot
      · rw [hne u hu]
        exact ⟨hhome.opened, hhome.parked, fun hr => hhome.ready (Bool.and_eq_true_iff.mp hr).1, hhome.served⟩
  · have h : (s.station v).engaged ≠ some i := fun h => by
      rw [hengaged i h] at hi
      cases hi
    rw [hdesc] at hd
    rw [hkept i h] at hi
    obtain ⟨hflag, hnot⟩ := Bool.and_eq_true_iff.mp hi
    obtain ⟨f, hf, hfi, hfu, hstate, hnext, honline, hopen⟩ := hs.carried i u hd nofun hflag
    have hu : u ≠ v := fun hu => by
      rw [State.carries_of_frame hf hfi (hfu.trans hu)] at hnot
      cases hnot
    refine ⟨f, hframe ▸ hf, hfi, hfu, ?_, ?_, ?_⟩
    · rw [hkept i h]
      exact hstate
    · rw [hkept i h]
      exact hnext
    · rw [hne u hu]
      exact ⟨honline, hopen⟩
  · by_cases hu : u = v
    · subst hu
      refine ⟨⟨fun h => ?_, fun _ => State.pollCondition_of_not_online (by rw [hself]; nofun)⟩, fun h => ?_,
        fun f _ _ _ ho => ?_⟩
      · rw [hself] at h
        exact h.elim nofun nofun
      · rw [hself] at h
        cases h
      · rw [hself] at ho
        cases ho
    · refine (hs.polled hP u).congr hframe (by rw [hne u hu]) (by rw [hne u hu])
        (State.pollCondition_congr (by rw [hne u hu]) (by rw [hne u hu]) fun i hi => ?_)
      obtain ⟨hout, hnot⟩ := helsewhere (hs.parked u i hi).2 hu
      rw [hkept i hout]
      simp [hnot]

/-! ## The stop or loss step -/

/-- The stop or loss step leaves QUEUED slots alone at PROBING stations (R78, R178). -/
theorem State.Sound.linkDown (hs : s.Sound P none none) (hlists : s.listsMatch) (target : LinkState) (o : Ending) :
    (s.linkDown target o).Sound P none none := by
  obtain ⟨hframe, hstations, hslots⟩ := State.linkDown_grounded hlists target o
  have hquiet : (s.linkDown target o).stationsQuiet := fun v => calm_linkDown s target o v (hs.quiet v)
  have hempty := fun v => hquiet v (hstations v).1
  have habandoned : ∃ held, s.abandonFrame.Sound P held none := by
    cases hf : s.frame with
    | none =>
      rw [State.abandonFrame_of_none hf]
      exact ⟨none, hs⟩
    | some f =>
      refine ⟨f.polled, hs.ended hf (by rw [State.abandonFrame_eq]) (fun v => by rw [State.abandonFrame_eq]; rfl) fun i => ?_⟩
      rw [State.slot_abandonFrame, hf, Option.bind_some]
      split <;> rfl
  obtain ⟨held, habandoned⟩ := habandoned
  have hwalked := habandoned.completeEach (s.linkOrder o) (s.linkResult o)
  have hnone : (s.abandonFrame.completeEach (s.linkOrder o) (s.linkResult o)).frame = none := by
    rw [(reportScope_completeEach (s.linkOrder o) (s.linkResult o) s.abandonFrame).frame, State.abandonFrame_eq]
  have hslot := s.slot_linkDown target o
  have hstation := s.station_linkDown_eq target o
  have hcompletes := completes_linkOrder hlists o
  refine ⟨hquiet, fun v => ?_, fun v i hi => ?_, fun v i hi => ?_, fun i hi => ?_, fun i hi => ?_, fun i v hd _ => ?_,
    fun i v hd _ hi => ?_, fun _ v => ?_⟩
  · obtain ⟨-, hp, -⟩ := hempty v
    rw [hp]
    exact ⟨List.nodup_nil, Nat.zero_le _⟩
  · obtain ⟨he, -⟩ := hempty v
    rw [he] at hi
    cases hi
  · obtain ⟨-, hp, -⟩ := hempty v
    rw [hp] at hi
    cases hi
  · rw [hslot] at hi ⊢
    exact hwalked.named i hi
  · rw [hslot] at hi ⊢
    exact hwalked.resting i hi
  · have hnot := hslots i
    rw [hslot] at hd hnot ⊢
    have hhome := hwalked.homed i v hd nofun
    refine ⟨fun h => absurd h hnot.1, fun h => absurd h hnot.2, fun h => absurd (hhome.ready h).1 hnot.2, fun ha => ?_⟩
    have hin : i ∉ s.linkOrder o := fun hi => by
      rw [hcompletes.slot_mem i hi] at ha
      cases ha
    rw [hcompletes.slot_not_mem i hin] at ha hd
    obtain ⟨hstate, -, -, -, -, -, -, hdesc⟩ := (sameCore_abandonFrame s).slot i
    rw [hstate] at ha
    rw [hdesc] at hd
    have hreleased : ((s.abandonFrame.completeEach (s.linkOrder o) (s.linkResult o)).station v).state = (s.station v).state := by
      rw [(released_completeEach (s.linkOrder o) (s.linkResult o) s.abandonFrame v).rest, State.abandonFrame_eq]
      rfl
    have hserved := (hs.homed i v hd nofun).served ha
    have hstay : (s.station v).state ≠ .withdrawing := fun hw => by
      refine hin (List.mem_filter.mpr ⟨(State.mem_walkOrder_iff hlists i).mpr ha, ?_⟩)
      rw [State.linkEnding_eq s o i ha, State.stationStateOf, hd, Option.map_some, hw]
      split <;> rfl
    rw [hstation]
    exact Station.served_linkDown (by rw [hreleased]; exact hserved) (by rw [hreleased]; exact hstay)
  · rw [hslot] at hi
    exact absurd ((hwalked.unflagged hnone i).symm.trans hi) nofun
  · obtain ⟨-, -, -, ht⟩ := hempty v
    refine ⟨⟨fun h => ?_, fun _ => State.pollCondition_of_not_online (hstations v).1⟩, fun h => ?_, fun f hm => ?_⟩
    · rw [ht] at h
      exact h.elim nofun nofun
    · rw [ht] at h
      cases h
    · rw [hframe] at hm
      cases hm

end

end Sys2Proof.Machine

/-! The scheduler's part keeps slots and stations fitting; every stage, and so every step, keeps them so. -/

namespace Sys2Proof.Machine

/-- A slot that offers an OPEN is QUEUED. -/
theorem Slot.queued_of_offers_openReq {x : Slot} {n : Nat} (h : x.nextFrame = some (.openReq, n)) : x.state = .queued := by
  have hexchange : x.exchangeFrame ≠ some (.openReq, n) := by
    unfold Slot.exchangeFrame
    split
    · nofun
    · split <;> nofun
  unfold Slot.nextFrame at h
  split at h
  case h_1 hs => exact hs
  case h_2 | h_3 => exact absurd h hexchange
  all_goals cases h

section
variable {P : Prop} {s : State}

/-! ## The choice of a frame -/

/-- A slot's frame enters SENDING at its ONLINE station. -/
theorem State.Sound.sendSlotFrame (hs : s.Sound P none none) (hf : s.frame = none) {i : SlotId} {v : StationId}
    (hd : (s.slot i).desc.stationId = some v) (honline : (s.station v).state = .online)
    (hnot : (s.slot i).state ≠ .parked) (hopen : (s.slot i).state = .queued → (s.station v).engaged = none) :
    (s.sendSlotFrame i).Sound P none none := by
  cases hn : (s.slot i).nextFrame with
  | none =>
    have hsame : s.sendSlotFrame i = s := by
      rw [State.sendSlotFrame, hn]
    exact hsame.symm ▸ hs
  | some k =>
    obtain ⟨kind, index⟩ := k
    obtain ⟨hpoll, -⟩ := Slot.nextFrame_kind hn
    have hcalm := calm_sendSlotFrame s i
    have heq : s.sendSlotFrame i = (s.setSlot i { s.slot i with
        inFlight := true, possiblyOpened := (s.slot i).possiblyOpened || decide (kind = .openReq) }).beginFrame
        (buildSlotFrame s.mem i (s.slot i) kind v index) := State.sendSlotFrame_eq hn hd
    have hstation : ∀ u, (s.sendSlotFrame i).station u = s.station u := fun u => by rw [heq]; rfl
    have hframe : (s.sendSlotFrame i).frame = some (buildSlotFrame s.mem i (s.slot i) kind v index) := by rw [heq]; rfl
    have hself : (s.sendSlotFrame i).slot i = { s.slot i with
        inFlight := true, possiblyOpened := (s.slot i).possiblyOpened || decide (kind = .openReq) } := by
      rw [heq]
      exact State.slot_setSlot_self ..
    have hne : ∀ j, j ≠ i → (s.sendSlotFrame i).slot j = s.slot j := fun j hj => by
      rw [heq]
      exact State.slot_setSlot_ne _ _ _ _ hj
    generalize s.sendSlotFrame i = t at *
    have hslots : ∀ j, (t.slot j).state = (s.slot j).state ∧ (t.slot j).desc = (s.slot j).desc ∧
        (t.slot j).ready = (s.slot j).ready := fun j => by
      by_cases hj : j = i
      · subst hj
        rw [hself]
        exact ⟨rfl, rfl, rfl⟩
      · rw [hne j hj]
        exact ⟨rfl, rfl, rfl⟩
    refine hs.standing hslots (fun u => by rw [hstation]; exact ⟨rfl, rfl, rfl, rfl⟩) (fun u => hcalm u (hs.quiet u))
      (fun j hj => ?_) fun hP u => ⟨?_, fun hh => ?_, fun g hg hk => ?_⟩
    · by_cases hji : j = i
      · subst hji
        rw [hself]
        refine ⟨Slot.isActive_of_nextFrame hn, fun u hu => ?_⟩
        obtain rfl : v = u := Option.some.inj (hd.symm.trans hu)
        refine ⟨_, hframe, rfl, rfl, by rw [hself]; exact hnot, by rw [hself]; exact hn, by rw [hstation]; exact honline,
          fun hk => ?_⟩
        obtain rfl : kind = .openReq := hk
        rw [hstation]
        exact hopen (Slot.queued_of_offers_openReq hn)
      · rw [hne j hji, hs.unflagged hf] at hj
        cases hj
    · have hcond : t.pollCondition u = s.pollCondition u :=
        State.pollCondition_congr (by rw [hstation]) (by rw [hstation]) fun j _ => (hslots j).2.2
      rw [hstation, hcond]
      exact (hs.polled hP u).timer
    · rw [hstation] at hh
      exact absurd hh (hs.not_held hf hP u)
    · rw [hframe] at hg
      cases hg
      exact absurd hk hpoll

/-- The frame of a station enters SENDING: a SYNC, or a POLL whose station's poll timer is held. -/
theorem State.Sound.sendStationFrame (hs : s.Sound P none none) (hf : s.frame = none) {t : State} {kind : FrameKind}
    {v : StationId} (hframe : t.frame = some (buildStationFrame kind v)) (hslot : ∀ i, t.slot i = s.slot i)
    (hne : ∀ u, u ≠ v → t.station u = s.station u)
    (hself : kind ≠ .poll ∧ t.station v = s.station v ∨ kind = .poll ∧ (s.station v).state = .online ∧ t.station v = { s.station v with pollTimer := .held }) :
    t.Sound P none none := by
  have hkept : ∀ u, (t.station u = s.station u ∧ (kind = .poll → v ≠ u)) ∨ (u = v ∧ kind = .poll ∧ (s.station v).state = .online ∧
      t.station u = { s.station u with pollTimer := .held }) := fun u => by
    by_cases hu : u = v
    · subst hu
      exact hself.imp (fun ⟨hk, ht⟩ => ⟨ht, fun h => absurd h hk⟩) fun ⟨hk, ho, ht⟩ => ⟨rfl, hk, ho, ht⟩
    · exact .inl ⟨hne u hu, fun _ h => hu h.symm⟩
  have hstations : ∀ u, (t.station u).state = (s.station u).state ∧ (t.station u).engaged = (s.station u).engaged ∧
      (t.station u).parked = (s.station u).parked ∧ (t.station u).parkDepth = (s.station u).parkDepth := fun u => by
    rcases hkept u with ⟨h, -⟩ | ⟨-, -, -, h⟩ <;> rw [h] <;> exact ⟨rfl, rfl, rfl, rfl⟩
  refine hs.standing (fun i => by rw [hslot]; exact ⟨rfl, rfl, rfl⟩) hstations (fun u => ?_) (fun i hi => ?_) fun hP u => ?_
  · rcases hkept u with ⟨h, -⟩ | ⟨rfl, -, ho, h⟩
    · rw [h]
      exact hs.quiet u
    · rw [h]
      exact fun hno => absurd ho hno
  · rw [hslot, hs.unflagged hf] at hi
    cases hi
  · have hold := hs.polled hP u
    have hcond : t.pollCondition u = s.pollCondition u :=
      State.pollCondition_congr (hstations u).1 (hstations u).2.2.1 fun j _ => by rw [hslot]
    rcases hkept u with ⟨h, hnot⟩ | ⟨rfl, hk, ho, h⟩
    · refine ⟨by rw [h, hcond]; exact hold.timer, fun hh => absurd (h ▸ hh) (hs.not_held hf hP u), fun g hg hk hv => ?_⟩
      rw [hframe] at hg
      cases hg
      exact absurd hv (hnot hk)
    · refine ⟨⟨fun hr => ?_, fun hr => ?_⟩, fun _ => ?_, fun _ _ _ _ _ => ?_⟩
      · rw [h] at hr
        exact hr.elim nofun nofun
      · rw [h] at hr
        cases hr
      · exact .inr ⟨_, hframe, hk, rfl⟩
      · rw [h]

/-- The resumption of a ready slot at an ONLINE station that engages none (R91). -/
theorem State.Sound.resumeSlot (hs : s.Sound P none none) (hf : s.frame = none) {i : SlotId} {v : StationId}
    (hd : (s.slot i).desc.stationId = some v) (honline : (s.station v).state = .online)
    (he : (s.station v).engaged = none) : (s.resumeSlot i).Sound P none none := by
  have heq : s.resumeSlot i = (s.setSlot i { s.slot i with state := .opened, ready := false }).setStation v
      { (s.station v).unpark i (fun j => (s.slot j).ready) with engaged := some i } := State.resumeSlot_eq hd
  have hcalm : Calm s (s.resumeSlot i) := by
    rw [State.resumeSlot_eq hd]
    exact Calm.trans (calm_modStation_of_online s v (g := fun r => { r.unpark i _ with engaged := some i }) honline)
      (calm_of_stations rfl)
  have hframe : (s.resumeSlot i).frame = s.frame := by rw [heq]; rfl
  have hslot : (s.resumeSlot i).slot i = { s.slot i with state := .opened, ready := false } := by
    rw [heq, State.slot_setStation, State.slot_setSlot_self]
  have hslot_ne : ∀ j, j ≠ i → (s.resumeSlot i).slot j = s.slot j := fun j hj => by
    rw [heq, State.slot_setStation, State.slot_setSlot_ne _ _ _ _ hj]
  have hstation : (s.resumeSlot i).station v = { (s.station v).unpark i (fun j => (s.slot j).ready) with engaged := some i } := by
    rw [heq, State.station_setStation_self]
  have hstation_ne : ∀ u, u ≠ v → (s.resumeSlot i).station u = s.station u := fun u hu => by
    rw [heq, State.station_setStation_ne _ _ _ _ hu]
    rfl
  generalize s.resumeSlot i = t at *
  obtain ⟨hnodup, hlen⟩ := hs.lists v
  obtain ⟨hnodup', hout, hkeep⟩ := nodup_erased hnodup i
  have hparked : (t.station v).parked = (s.station v).parked.erase i := by rw [hstation]; rfl
  have hstate : (t.station v).state = (s.station v).state := by rw [hstation]; rfl
  have hready : ∀ j ∈ (s.station v).parked.erase i, (t.slot j).ready = (s.slot j).ready := fun j hj => by
    rw [hslot_ne j (ne_of_mem_erase_of_nodup hnodup hj)]
  refine hs.moved (i := i) (v := v) {
    slot_ne := hslot_ne
    station_ne := hstation_ne
    frame := hframe
    before := hd
    after := by rw [hslot]; exact hd
    state := hstate
    lists := by rw [hparked, hstation]; exact ⟨hnodup', List.length_erase_le.trans hlen⟩
    engaged_ne := fun j hj => by
      rw [hstation, he]
      exact ⟨fun h => absurd (Option.some.inj h).symm hj, nofun⟩
    parked_ne := fun j hj => by rw [hparked]; exact hkeep j hj
    flags := fun j _ h => absurd ((hs.unflagged hf j).symm.trans h) nofun
    engaged_self := fun _ => by rw [hslot]; exact .inl rfl
    parked_self := fun h => by rw [hparked] at h; exact absurd h hout
    homed := by
      rw [hslot, hstation]
      refine ⟨fun _ => rfl, nofun, nofun, fun _ => ?_⟩
      show (s.station v).state ≠ _ ∧ (s.station v).state ≠ _ ∧ (s.station v).state ≠ _
      rw [honline]
      exact ⟨nofun, nofun, nofun⟩
    resting := fun _ => by rw [hslot]
    unflagged := by rw [hslot]; exact hs.unflagged hf i } hcalm fun hP => ?_
  refine (hs.polled hP v).unparked hframe hstate hparked ?_ hready
  rw [← Station.unpark_pollTimer hstate hparked hready, hstation]

/-- The scheduler's part (R80, R81, R95). -/
theorem State.Sound.dispatch (hs : s.Sound P none none) : s.dispatch.Sound P none none := by
  unfold State.dispatch
  split
  next hidle =>
    have hf : s.frame = none := by
      rw [State.lineIdle, Bool.and_eq_true, Option.isNone_iff_eq_none] at hidle
      exact hidle.1
    split
    next c hc =>
      have hfits := State.choose_fits hc
      cases c with
      | slotFrame i =>
        obtain ⟨v, hd, honline, hstate⟩ := hfits
        refine hs.sendSlotFrame hf hd honline (fun hp => ?_) fun hq => ?_
        · rcases hstate with h | h | ⟨h, -⟩ <;> cases h.symm.trans hp
        · rcases hstate with h | h | ⟨-, h⟩
          · cases h.symm.trans hq
          · cases h.symm.trans hq
          · exact h
      | resume i =>
        obtain ⟨v, hd, honline, -, -, he⟩ := hfits
        have hresumed := hs.resumeSlot hf hd honline he
        have heq := State.resumeSlot_eq hd
        have hslot : (s.resumeSlot i).slot i = { s.slot i with state := .opened, ready := false } := by
          rw [heq]
          exact State.slot_setSlot_self s i _
        refine hresumed.sendSlotFrame (v := v) (by rw [heq]; exact hf) (by rw [hslot]; exact hd) ?_ (by rw [hslot]; nofun)
          (by rw [hslot]; nofun)
        rw [heq]
        exact (congrArg Station.state (State.station_setStation_self s v _)).trans honline
      | sync v => exact hs.sendStationFrame hf rfl (fun _ => rfl) (fun _ _ => rfl) (.inl ⟨nofun, rfl⟩)
      | poll v =>
        exact hs.sendStationFrame hf rfl (fun _ => rfl) (fun u hu => State.station_setStation_ne s v u _ hu)
          (.inr ⟨rfl, hfits.1, State.station_setStation_self s v _⟩)
    next => exact hs
  next => exact hs

/-! ## Reset -/

/-- With every slot FREE, every station as after reset and no frame in flight nothing is asked of any of them. -/
theorem State.sound_of_reset {t : State} (slots : t.slots = State.reset.slots) (stations : t.stations = State.reset.stations)
    (hf : t.frame = none) : t.Sound P none none := by
  have hslot : ∀ i, t.slot i = Slot.empty := fun i =>
    (congrArg (fun x : Vector Slot 16 => x[i.val]) slots).trans (State.slot_reset i)
  have hstation : ∀ v, t.station v = Station.initial := fun v =>
    (congrArg (fun x : Vector Station 8 => x[v.val]) stations).trans (State.station_reset v)
  refine ⟨fun v _ => ?_, fun v => ?_, fun v i hi => ?_, fun v i hi => ?_, fun i hi => ?_, fun i _ => ?_, fun i v _ _ => ?_,
    fun i v _ _ hi => ?_, fun _ v => ⟨⟨fun h => ?_, fun _ => ?_⟩, fun h => ?_, fun f hm => ?_⟩⟩
  · rw [hstation]
    exact ⟨rfl, rfl, rfl, rfl⟩
  · rw [hstation]
    exact ⟨List.nodup_nil, Nat.zero_le _⟩
  · rw [hstation] at hi
    cases hi
  · rw [hstation] at hi
    cases hi
  · rw [hslot] at hi
    cases hi
  · rw [hslot]
    exact ⟨rfl, rfl⟩
  · rw [hslot]
    exact Slot.homed_of_inactive rfl rfl i _
  · rw [hslot] at hi
    cases hi
  · rw [hstation] at h
    exact h.elim nofun nofun
  · exact State.pollCondition_of_not_online (by rw [hstation]; nofun)
  · rw [hstation] at h
    cases h
  · rw [hf] at hm
    cases hm

/-! ## Every stage, and every step -/

theorem Stage.keeps_sound {t : State} (h : Stage s t) (hs : s.Sound P none none) (hlists : s.listsMatch) :
    t.Sound P none none := by
  cases h with
  | aside h => exact hs.aside h
  | enqueue i h hp v hv hst => exact hs.enqueueSlot h hp hv hst
  | complete i r => exact hs.complete i r
  | abort i k h hf => exact hs.enterAborting h hf _
  | enable v h => exact hs.enable h
  | disable v h => exact hs.disableAtOnce hlists h
  | withdraw v => exact hs.startWithdrawal hlists v
  | linkDown target => exact hs.linkDown hlists target _
  | dispatch => exact hs.dispatch
  | reset slots stations _ _ hf => exact State.sound_of_reset slots stations hf

theorem Runs.keeps_sound {t : State} (h : Runs s t) (hs : s.Sound P none none) (hlists : s.listsMatch) :
    t.Sound P none none := by
  have hstages : ∀ {u : State}, Stages u t → u.Sound P none none → u.listsMatch → t.Sound P none none := fun hu hsu hlu =>
    (hu.preserves (I := fun u => u.Sound P none none ∧ u.listsMatch)
      (fun _ _ hc ⟨h, hl⟩ => ⟨hc.keeps_sound h hl, hc.keeps_listsMatch hl⟩) ⟨hsu, hlu⟩).1
  rcases h with h | ⟨f, gap, o, hf, ho, h⟩
  · exact hstages h hs hlists
  · exact hstages h (hs.told hlists hf gap ho) ((changes_told gap ho).listsMatch hlists)

end

/-- Settles O60: a step is a run of stages, each of which keeps slots and stations fitting. -/
theorem stepKeepsTheEngagements : Obligations.StepKeepsTheEngagements := by
  intro s t hs hlists hquiet h
  obtain ⟨u, hsame, hruns⟩ := step_runs h
  have hsound : t.Sound s.pollTimersFit none none :=
    hruns.keeps_sound ((State.sound_of_engagement hs hquiet).sameBoard hsame) (State.listsMatch_of_sameBoard hsame hlists)
  exact ⟨hsound.engagement, hsound.pollTimersFit⟩

end Sys2Proof.Machine
